-- ==== Sys2Proof/Word.lean ====
section
/-! DEFINITION. The widths of the Qwiic Switch CORE (00_scope.md R9, R10). Every value is unsigned; bit 0 is the
least significant bit (R10, decision D1). -/

namespace Sys2Proof

/-- A byte of the register map, 8 bits (R10). -/
abbrev Byte := BitVec 8

/-- A 16-bit configuration cell (10_state.md R27, R28). -/
abbrev Half := BitVec 16

/-- A Timestamp, `TS_W` = 32 bits (R9). -/
abbrev Timestamp := BitVec 32

/-- The offset of a request, or a byte address of the decoder's key, `OFF_W` = 8 bits (R9, R70). -/
abbrev Offset := BitVec 8

/-- The decoder's key: bit 8 is `rw`, bits 7:0 the byte address (30_encoding.md R71). -/
abbrev Key := BitVec 9

end Sys2Proof
end

