-- ==== Sys2Proof/Config.lean ====
section
/-! DEFINITION. The parameters of 00_scope.md R9 (each literal once, as R8 asks) and the free values. The OPEN
parameters and the free values are opaque constants with no body: nothing can be proved of their values. -/

namespace Sys2Proof.Config

/-- `CAPACITY`: entries of an Event Queue (R9). -/
abbrev capacity : Nat := 15

/-- `MAP_SIZE`: bytes of the register map (R9, 20_memory.md R50). -/
abbrev mapSize : Nat := 32

/-- `DEFAULT_ADDR`: the value of `CFG.i2cAddress` when nothing was ever persisted (R9, 10_state.md R29). -/
abbrev defaultAddr : Byte := 0x5F#8

/-- `JUMPER_ADDR`: used only outside the core (R9, 10_state.md R40). -/
abbrev jumperAddr : Byte := 0x5E#8

/-- Response code `OK` (R9, 60_exceptions.md R192). -/
abbrev ok : BitVec 1 := 0#1

/-- Response code `ERR_RANGE` (R9, 60_exceptions.md R192). -/
abbrev errRange : BitVec 1 := 1#1

/-- `DEVICE_ID`, OPEN (R9, 10_state.md R30, decision D17). Log 13; safe. -/
opaque deviceId : Byte

/-- `FW_MINOR`, OPEN (R9, 10_state.md R30, decision D17). Log 13; safe. -/
opaque fwMinor : Byte

/-- `FW_MAJOR`, OPEN (R9, 10_state.md R30, decision D17). Log 13; safe. -/
opaque fwMajor : Byte

/-- `any_32` of R11: the value of the n-th draw. A byte of it is an `any_8`. Log 3; safe. -/
opaque anyTimestamp : Nat → Timestamp

end Sys2Proof.Config
end

