-- ==== Sys2Proof/Machine/Operands.lean ====
section
/-! DEFINITION. How values are split into bytes and assembled from them (30_encoding.md R79; 20_memory.md R53, R54):
least significant byte first, everything unsigned, nothing extended or scaled. -/

namespace Sys2Proof.Machine

/-- `le_byte(w, k)` = `w[8k+7 : 8k]` (00_scope.md R11, 20_memory.md R54). -/
def leByte (w : Timestamp) (k : Nat) : Byte := w.extractLsb' (8 * k) 8

/-- Four bytes, lowest address first, as one word: `{B3, B2, B1, B0}` (R79 item 2). -/
def leWord (b0 b1 b2 b3 : Byte) : Timestamp := b3 ++ b2 ++ b1 ++ b0

/-- Bits 7:0 of a 16-bit cell: the byte at its lower address (R79 item 1). -/
def lowByte (w : Half) : Byte := w.extractLsb' 0 8

/-- Bits 15:8 of a 16-bit cell: the byte at its higher address (R79 item 1). -/
def highByte (w : Half) : Byte := w.extractLsb' 8 8

/-- A 16-bit cell from the byte at its higher and the byte at its lower address (R79 item 1). -/
def halfOf (high low : Byte) : Half := high ++ low

/-- The cell with bits 7:0 replaced, the other byte unchanged (20_memory.md R54). -/
def setLowByte (w : Half) (v : Byte) : Half := halfOf (highByte w) v

/-- The cell with bits 15:8 replaced, the other byte unchanged (20_memory.md R54). -/
def setHighByte (w : Half) (v : Byte) : Half := halfOf v (lowByte w)

/-- Byte `k` of a natural number, byte 0 the least significant: how a word of the opcode table is laid out (log 10). -/
def byteOfNat (w k : Nat) : Byte := BitVec.ofNat 8 (w / 2 ^ (8 * k))

end Sys2Proof.Machine
end

