-- ==== Sys2Proof/Machine/Map.lean ====
section
/-! DEFINITION. Every address, width, bit position and mask of the register map and of the decoder, each literal once,
so that an audit can change it in one place (00_scope.md R8, decision D27). `CAPACITY`, `MAP_SIZE`, the two bus
addresses and the response codes stand in Config. -/

namespace Sys2Proof.Map

/-! The base address of each field (30_encoding.md R73). -/

abbrev buttonStatus : Nat := 0x00
abbrev buttonDebounceTime : Nat := 0x01
abbrev interruptConfig : Nat := 0x03
abbrev pressedQueueStatus : Nat := 0x04
abbrev pressedQueueFront : Nat := 0x05
abbrev pressedQueueBack : Nat := 0x09
abbrev clickedQueueStatus : Nat := 0x0D
abbrev clickedQueueFront : Nat := 0x0E
abbrev clickedQueueBack : Nat := 0x12
abbrev ledBrightness : Nat := 0x16
abbrev ledPulseGranularity : Nat := 0x17
abbrev ledPulseCycleTime : Nat := 0x18
abbrev ledPulseOffTime : Nat := 0x1A
abbrev i2cAddress : Nat := 0x1C
abbrev id : Nat := 0x1D
abbrev firmwareMinor : Nat := 0x1E
abbrev firmwareMajor : Nat := 0x1F

/-- Bytes of a one-byte field (R73). -/
abbrev byteWidth : Nat := 1

/-- Bytes of the debounce time and of the two LED times (R73). -/
abbrev halfWidth : Nat := 2

/-- Bytes of a queue view (R73). -/
abbrev viewWidth : Nat := 4

/-- Base address and width of the 17 fields, in address order (R73). -/
def layout : List (Nat × Nat) :=
  [(buttonStatus, byteWidth), (buttonDebounceTime, halfWidth), (interruptConfig, byteWidth),
   (pressedQueueStatus, byteWidth), (pressedQueueFront, viewWidth), (pressedQueueBack, viewWidth),
   (clickedQueueStatus, byteWidth), (clickedQueueFront, viewWidth), (clickedQueueBack, viewWidth),
   (ledBrightness, byteWidth), (ledPulseGranularity, byteWidth), (ledPulseCycleTime, halfWidth),
   (ledPulseOffTime, halfWidth), (i2cAddress, byteWidth), (id, byteWidth), (firmwareMinor, byteWidth),
   (firmwareMajor, byteWidth)]

/-- The byte address of byte `j` of the field at `base` (20_memory.md R53). -/
def byteAddr (base j : Nat) : Offset := BitVec.ofNat 8 (base + j)

/-- Whether byte address `a` is a byte of the field at `base` with this width. -/
def covers (base width a : Nat) : Bool := base ≤ a && a < base + width

/-! The bit positions of the bit-field bytes (30_encoding.md R73, R76 to R78); bit 0 is the least significant (00_scope.md
R10). -/

abbrev isPressedBit : Nat := 0
abbrev hasBeenClickedBit : Nat := 1
abbrev pressedEnableBit : Nat := 0
abbrev clickedEnableBit : Nat := 1
abbrev statusBit : Nat := 2
abbrev isFullBit : Nat := 5
abbrev isEmptyBit : Nat := 6
abbrev popRequestBit : Nat := 7

/-- The mask of a bit position (00_scope.md R10; the masks of R76 to R78 are these of the positions above). -/
def bitMask (n : Nat) : Byte := 1#8 <<< n

/-- The reserved bits of 0x00 (R76). -/
def buttonStatusReserved : Byte := ~~~(bitMask isPressedBit ||| bitMask hasBeenClickedBit)

/-- The reserved bits of 0x03 (R77). -/
def interruptConfigReserved : Byte := ~~~(bitMask pressedEnableBit ||| bitMask clickedEnableBit ||| bitMask statusBit)

/-- The reserved bits of 0x04 and 0x0D (R78). -/
def queueStatusReserved : Byte := ~~~(bitMask isFullBit ||| bitMask isEmptyBit ||| bitMask popRequestBit)

/-! The decoder's key (30_encoding.md R70 to R72, R80). -/

/-- The bit of the key that is `rw` (R71). -/
abbrev rwBit : Nat := 8

/-- `rw` of a READ (R70). -/
abbrev rwRead : BitVec 1 := 1#1

/-- `rw` of a WRITE (R70). -/
abbrev rwWrite : BitVec 1 := 0#1

/-- `kind` of EV_PRESS (R72). -/
abbrev kindPress : BitVec 1 := 0#1

/-- `kind` of EV_CLICK (R72). -/
abbrev kindClick : BitVec 1 := 1#1

/-- The mask of a row that selects one address (R80). -/
abbrev exactMask : Offset := 0xFF#8

/-- `match` and `mask` over the address of the three out-of-range rows of a direction: `a[7] == 1`, `a[7:6] == 0b01`,
`a[7:5] == 0b001` (R80). -/
abbrev outOfRange0 : Offset × Offset := (0x80#8, 0x80#8)
abbrev outOfRange1 : Offset × Offset := (0x40#8, 0xC0#8)
abbrev outOfRange2 : Offset × Offset := (0x20#8, 0xE0#8)

/-- Whether an address lies in the range of a `match` and `mask` (R80). -/
def inRow (row : Offset × Offset) (a : Offset) : Bool := a &&& row.2 == row.1

end Sys2Proof.Map
end

