-- ==== Sys2Proof/Syntax.lean ====
section
/-! DEFINITION. The operations of the block: one constructor for each of the 73 rows of spec/opcode_table.json
(30_encoding.md R80). A READ or WRITE request is served as one such row for each of its bytes (00_scope.md R16). -/

namespace Sys2Proof

/-- The configuration vector `CFG` that RESET loads (00_scope.md R9, 70_reset_and_hazards.md R220). -/
structure Cfg where
  /-- reset value of `buttonDebounceTime` -/
  debounce : Half
  /-- reset value of the pressed enable -/
  pressedEnable : Bool
  /-- reset value of the clicked enable -/
  clickedEnable : Bool
  ledBrightness : Byte
  ledPulseGranularity : Byte
  ledPulseCycleTime : Half
  ledPulseOffTime : Half
  i2cAddress : Byte
deriving DecidableEq, Repr

/-- One row of the decoder (30_encoding.md R80): the service of one byte of a request, an event, or reset.
`v` is the written byte, `a` an address outside the map, `ts` a Timestamp. -/
inductive Instr where
  /-- `RD.buttonStatus`, R112. -/
  | rdButtonStatus
  /-- `RD.buttonDebounceTime.b0`, R113. -/
  | rdButtonDebounceTimeB0
  /-- `RD.buttonDebounceTime.b1`, R113. -/
  | rdButtonDebounceTimeB1
  /-- `RD.interruptConfig`, R114. -/
  | rdInterruptConfig
  /-- `RD.pressedQueueStatus`, R115. -/
  | rdPressedQueueStatus
  /-- `RD.pressedQueueFront.b0`, R117. -/
  | rdPressedQueueFrontB0
  /-- `RD.pressedQueueFront.b1`, R117. -/
  | rdPressedQueueFrontB1
  /-- `RD.pressedQueueFront.b2`, R117. -/
  | rdPressedQueueFrontB2
  /-- `RD.pressedQueueFront.b3`, R117. -/
  | rdPressedQueueFrontB3
  /-- `RD.pressedQueueBack.b0`, R118. -/
  | rdPressedQueueBackB0
  /-- `RD.pressedQueueBack.b1`, R118. -/
  | rdPressedQueueBackB1
  /-- `RD.pressedQueueBack.b2`, R118. -/
  | rdPressedQueueBackB2
  /-- `RD.pressedQueueBack.b3`, R118. -/
  | rdPressedQueueBackB3
  /-- `RD.clickedQueueStatus`, R119. -/
  | rdClickedQueueStatus
  /-- `RD.clickedQueueFront.b0`, R120. -/
  | rdClickedQueueFrontB0
  /-- `RD.clickedQueueFront.b1`, R120. -/
  | rdClickedQueueFrontB1
  /-- `RD.clickedQueueFront.b2`, R120. -/
  | rdClickedQueueFrontB2
  /-- `RD.clickedQueueFront.b3`, R120. -/
  | rdClickedQueueFrontB3
  /-- `RD.clickedQueueBack.b0`, R121. -/
  | rdClickedQueueBackB0
  /-- `RD.clickedQueueBack.b1`, R121. -/
  | rdClickedQueueBackB1
  /-- `RD.clickedQueueBack.b2`, R121. -/
  | rdClickedQueueBackB2
  /-- `RD.clickedQueueBack.b3`, R121. -/
  | rdClickedQueueBackB3
  /-- `RD.ledBrightness`, R122. -/
  | rdLedBrightness
  /-- `RD.ledPulseGranularity`, R123. -/
  | rdLedPulseGranularity
  /-- `RD.ledPulseCycleTime.b0`, R124. -/
  | rdLedPulseCycleTimeB0
  /-- `RD.ledPulseCycleTime.b1`, R124. -/
  | rdLedPulseCycleTimeB1
  /-- `RD.ledPulseOffTime.b0`, R125. -/
  | rdLedPulseOffTimeB0
  /-- `RD.ledPulseOffTime.b1`, R125. -/
  | rdLedPulseOffTimeB1
  /-- `RD.i2cAddress`, R126. -/
  | rdI2cAddress
  /-- `RD.id`, R127. -/
  | rdId
  /-- `RD.firmwareMinor`, R128. -/
  | rdFirmwareMinor
  /-- `RD.firmwareMajor`, R129. -/
  | rdFirmwareMajor
  /-- `RD.OOR.0`, R130. -/
  | rdOor0 (a : Offset)
  /-- `RD.OOR.1`, R130. -/
  | rdOor1 (a : Offset)
  /-- `RD.OOR.2`, R130. -/
  | rdOor2 (a : Offset)
  /-- `WR.buttonStatus`, R142. -/
  | wrButtonStatus (v : Byte)
  /-- `WR.buttonDebounceTime.b0`, R143. -/
  | wrButtonDebounceTimeB0 (v : Byte)
  /-- `WR.buttonDebounceTime.b1`, R143. -/
  | wrButtonDebounceTimeB1 (v : Byte)
  /-- `WR.interruptConfig`, R144. -/
  | wrInterruptConfig (v : Byte)
  /-- `WR.pressedQueueStatus`, R145. -/
  | wrPressedQueueStatus (v : Byte)
  /-- `WR.pressedQueueFront.b0`, R146. -/
  | wrPressedQueueFrontB0 (v : Byte)
  /-- `WR.pressedQueueFront.b1`, R146. -/
  | wrPressedQueueFrontB1 (v : Byte)
  /-- `WR.pressedQueueFront.b2`, R146. -/
  | wrPressedQueueFrontB2 (v : Byte)
  /-- `WR.pressedQueueFront.b3`, R146. -/
  | wrPressedQueueFrontB3 (v : Byte)
  /-- `WR.pressedQueueBack.b0`, R147. -/
  | wrPressedQueueBackB0 (v : Byte)
  /-- `WR.pressedQueueBack.b1`, R147. -/
  | wrPressedQueueBackB1 (v : Byte)
  /-- `WR.pressedQueueBack.b2`, R147. -/
  | wrPressedQueueBackB2 (v : Byte)
  /-- `WR.pressedQueueBack.b3`, R147. -/
  | wrPressedQueueBackB3 (v : Byte)
  /-- `WR.clickedQueueStatus`, R148. -/
  | wrClickedQueueStatus (v : Byte)
  /-- `WR.clickedQueueFront.b0`, R149. -/
  | wrClickedQueueFrontB0 (v : Byte)
  /-- `WR.clickedQueueFront.b1`, R149. -/
  | wrClickedQueueFrontB1 (v : Byte)
  /-- `WR.clickedQueueFront.b2`, R149. -/
  | wrClickedQueueFrontB2 (v : Byte)
  /-- `WR.clickedQueueFront.b3`, R149. -/
  | wrClickedQueueFrontB3 (v : Byte)
  /-- `WR.clickedQueueBack.b0`, R150. -/
  | wrClickedQueueBackB0 (v : Byte)
  /-- `WR.clickedQueueBack.b1`, R150. -/
  | wrClickedQueueBackB1 (v : Byte)
  /-- `WR.clickedQueueBack.b2`, R150. -/
  | wrClickedQueueBackB2 (v : Byte)
  /-- `WR.clickedQueueBack.b3`, R150. -/
  | wrClickedQueueBackB3 (v : Byte)
  /-- `WR.ledBrightness`, R151. -/
  | wrLedBrightness (v : Byte)
  /-- `WR.ledPulseGranularity`, R152. -/
  | wrLedPulseGranularity (v : Byte)
  /-- `WR.ledPulseCycleTime.b0`, R153. -/
  | wrLedPulseCycleTimeB0 (v : Byte)
  /-- `WR.ledPulseCycleTime.b1`, R153. -/
  | wrLedPulseCycleTimeB1 (v : Byte)
  /-- `WR.ledPulseOffTime.b0`, R154. -/
  | wrLedPulseOffTimeB0 (v : Byte)
  /-- `WR.ledPulseOffTime.b1`, R154. -/
  | wrLedPulseOffTimeB1 (v : Byte)
  /-- `WR.i2cAddress`, R155. -/
  | wrI2cAddress (v : Byte)
  /-- `WR.id`, R156. -/
  | wrId (v : Byte)
  /-- `WR.firmwareMinor`, R157. -/
  | wrFirmwareMinor (v : Byte)
  /-- `WR.firmwareMajor`, R158. -/
  | wrFirmwareMajor (v : Byte)
  /-- `WR.OOR.0`, R159. -/
  | wrOor0 (a : Offset) (v : Byte)
  /-- `WR.OOR.1`, R159. -/
  | wrOor1 (a : Offset) (v : Byte)
  /-- `WR.OOR.2`, R159. -/
  | wrOor2 (a : Offset) (v : Byte)
  /-- `EV_PRESS`, R171. -/
  | evPress (ts : Timestamp)
  /-- `EV_CLICK`, R172. -/
  | evClick (ts : Timestamp)
  /-- `RESET`, R220. -/
  | reset (cfg : Cfg)
deriving DecidableEq, Repr

end Sys2Proof
end

