-- ==== Sys2Proof/WellFormed.lean ====
section
/-! DEFINITION. Which terms of `Instr` stand for a row of the decoder: an out-of-range row holds an address of the
range its mask selects (30_encoding.md R80, R82). Every other operand is legal at every value (R75, R83;
10_state.md R27 to R29; 43_events_interrupt.md R180; 70_reset_and_hazards.md R220 corner case c). -/

namespace Sys2Proof

/-- The address ranges of the three out-of-range rows of each direction (R80): `a[7] == 1`, `a[7:6] == 0b01`,
`a[7:5] == 0b001`. Every other row is well formed whatever its operands. -/
def Instr.wellFormed : Instr → Bool
  | .rdOor0 a => Map.inRow Map.outOfRange0 a
  | .rdOor1 a => Map.inRow Map.outOfRange1 a
  | .rdOor2 a => Map.inRow Map.outOfRange2 a
  | .wrOor0 a _ => Map.inRow Map.outOfRange0 a
  | .wrOor1 a _ => Map.inRow Map.outOfRange1 a
  | .wrOor2 a _ => Map.inRow Map.outOfRange2 a
  | .rdButtonStatus | .rdButtonDebounceTimeB0 | .rdButtonDebounceTimeB1 | .rdInterruptConfig | .rdPressedQueueStatus
  | .rdPressedQueueFrontB0 | .rdPressedQueueFrontB1 | .rdPressedQueueFrontB2 | .rdPressedQueueFrontB3
  | .rdPressedQueueBackB0 | .rdPressedQueueBackB1 | .rdPressedQueueBackB2 | .rdPressedQueueBackB3
  | .rdClickedQueueStatus | .rdClickedQueueFrontB0 | .rdClickedQueueFrontB1 | .rdClickedQueueFrontB2
  | .rdClickedQueueFrontB3 | .rdClickedQueueBackB0 | .rdClickedQueueBackB1 | .rdClickedQueueBackB2
  | .rdClickedQueueBackB3 | .rdLedBrightness | .rdLedPulseGranularity | .rdLedPulseCycleTimeB0
  | .rdLedPulseCycleTimeB1 | .rdLedPulseOffTimeB0 | .rdLedPulseOffTimeB1 | .rdI2cAddress | .rdId | .rdFirmwareMinor
  | .rdFirmwareMajor | .wrButtonStatus _ | .wrButtonDebounceTimeB0 _ | .wrButtonDebounceTimeB1 _
  | .wrInterruptConfig _ | .wrPressedQueueStatus _ | .wrPressedQueueFrontB0 _ | .wrPressedQueueFrontB1 _
  | .wrPressedQueueFrontB2 _ | .wrPressedQueueFrontB3 _ | .wrPressedQueueBackB0 _ | .wrPressedQueueBackB1 _
  | .wrPressedQueueBackB2 _ | .wrPressedQueueBackB3 _ | .wrClickedQueueStatus _ | .wrClickedQueueFrontB0 _
  | .wrClickedQueueFrontB1 _ | .wrClickedQueueFrontB2 _ | .wrClickedQueueFrontB3 _ | .wrClickedQueueBackB0 _
  | .wrClickedQueueBackB1 _ | .wrClickedQueueBackB2 _ | .wrClickedQueueBackB3 _ | .wrLedBrightness _
  | .wrLedPulseGranularity _ | .wrLedPulseCycleTimeB0 _ | .wrLedPulseCycleTimeB1 _ | .wrLedPulseOffTimeB0 _
  | .wrLedPulseOffTimeB1 _ | .wrI2cAddress _ | .wrId _ | .wrFirmwareMinor _ | .wrFirmwareMajor _ | .evPress _
  | .evClick _ | .reset _ => true

end Sys2Proof
end

