-- ==== Sys2Proof/Decode.lean ====
section
/-! DEFINITION. The address decoder (30_encoding.md R70 to R72, R80) and the encoder. The ports themselves tell the
three formats apart (10_state.md R37, R38): a bus request, an event, reset. How an operation is laid out as bytes is
the model's (log 10): REQ is `[a, d]` for a READ and `[a, d, v]` for a WRITE, with `rw` in bit 0 of `d`; EVT is
`[k, ts0, ts1, ts2, ts3]` with `kind` in bit 0 of `k`; RST is the ten bytes of `CFG`. -/

namespace Sys2Proof

/-- The three formats of opcode_table.json: bus request (R70), event (R72), reset (70_reset_and_hazards.md R220). -/
inductive Format where
  | req
  | evt
  | rst
deriving DecidableEq, Repr

/-- Why bytes are no operation of a format. -/
inductive DecodeError where
  /-- fewer bytes than the operation has -/
  | tooShort
  /-- more bytes than the operation has -/
  | trailingBytes
deriving DecidableEq, Repr

/-- The rows of the map's addresses: address, the READ's row, the WRITE's row (R80; 41_bus_read.md R112 to R129,
42_bus_write.md R142 to R158). -/
def byteRows : List (Nat × Instr × (Byte → Instr)) :=
  [(Map.buttonStatus, .rdButtonStatus, .wrButtonStatus),
   (Map.buttonDebounceTime + 0, .rdButtonDebounceTimeB0, .wrButtonDebounceTimeB0),
   (Map.buttonDebounceTime + 1, .rdButtonDebounceTimeB1, .wrButtonDebounceTimeB1),
   (Map.interruptConfig, .rdInterruptConfig, .wrInterruptConfig),
   (Map.pressedQueueStatus, .rdPressedQueueStatus, .wrPressedQueueStatus),
   (Map.pressedQueueFront + 0, .rdPressedQueueFrontB0, .wrPressedQueueFrontB0),
   (Map.pressedQueueFront + 1, .rdPressedQueueFrontB1, .wrPressedQueueFrontB1),
   (Map.pressedQueueFront + 2, .rdPressedQueueFrontB2, .wrPressedQueueFrontB2),
   (Map.pressedQueueFront + 3, .rdPressedQueueFrontB3, .wrPressedQueueFrontB3),
   (Map.pressedQueueBack + 0, .rdPressedQueueBackB0, .wrPressedQueueBackB0),
   (Map.pressedQueueBack + 1, .rdPressedQueueBackB1, .wrPressedQueueBackB1),
   (Map.pressedQueueBack + 2, .rdPressedQueueBackB2, .wrPressedQueueBackB2),
   (Map.pressedQueueBack + 3, .rdPressedQueueBackB3, .wrPressedQueueBackB3),
   (Map.clickedQueueStatus, .rdClickedQueueStatus, .wrClickedQueueStatus),
   (Map.clickedQueueFront + 0, .rdClickedQueueFrontB0, .wrClickedQueueFrontB0),
   (Map.clickedQueueFront + 1, .rdClickedQueueFrontB1, .wrClickedQueueFrontB1),
   (Map.clickedQueueFront + 2, .rdClickedQueueFrontB2, .wrClickedQueueFrontB2),
   (Map.clickedQueueFront + 3, .rdClickedQueueFrontB3, .wrClickedQueueFrontB3),
   (Map.clickedQueueBack + 0, .rdClickedQueueBackB0, .wrClickedQueueBackB0),
   (Map.clickedQueueBack + 1, .rdClickedQueueBackB1, .wrClickedQueueBackB1),
   (Map.clickedQueueBack + 2, .rdClickedQueueBackB2, .wrClickedQueueBackB2),
   (Map.clickedQueueBack + 3, .rdClickedQueueBackB3, .wrClickedQueueBackB3),
   (Map.ledBrightness, .rdLedBrightness, .wrLedBrightness),
   (Map.ledPulseGranularity, .rdLedPulseGranularity, .wrLedPulseGranularity),
   (Map.ledPulseCycleTime + 0, .rdLedPulseCycleTimeB0, .wrLedPulseCycleTimeB0),
   (Map.ledPulseCycleTime + 1, .rdLedPulseCycleTimeB1, .wrLedPulseCycleTimeB1),
   (Map.ledPulseOffTime + 0, .rdLedPulseOffTimeB0, .wrLedPulseOffTimeB0),
   (Map.ledPulseOffTime + 1, .rdLedPulseOffTimeB1, .wrLedPulseOffTimeB1),
   (Map.i2cAddress, .rdI2cAddress, .wrI2cAddress),
   (Map.id, .rdId, .wrId),
   (Map.firmwareMinor, .rdFirmwareMinor, .wrFirmwareMinor),
   (Map.firmwareMajor, .rdFirmwareMajor, .wrFirmwareMajor)]

/-- The row of key `{1, a}` (R80; 41_bus_read.md R112 to R130). -/
def decodeRead (a : Offset) : Instr :=
  match byteRows.lookup a.toNat with
  | some (r, _) => r
  | none =>
    if Map.inRow Map.outOfRange0 a then .rdOor0 a
    else if Map.inRow Map.outOfRange1 a then .rdOor1 a
    else .rdOor2 a

/-- The row of key `{0, a}` with the written byte `v` (R80; 42_bus_write.md R142 to R159). -/
def decodeWrite (a : Offset) (v : Byte) : Instr :=
  match byteRows.lookup a.toNat with
  | some (_, w) => w v
  | none =>
    if Map.inRow Map.outOfRange0 a then .wrOor0 a v
    else if Map.inRow Map.outOfRange1 a then .wrOor1 a v
    else .wrOor2 a v

/-- The decoder of requests, a total function of the 9-bit key (R71, R80); `v` is the written byte, which is no part
of the key and which a READ does not carry. `rw` is 1 for a READ (R70). -/
def decodeKey (key : Key) (v : Byte) : Instr :=
  if key.getLsbD Map.rwBit then decodeRead (key.setWidth 8) else decodeWrite (key.setWidth 8) v

/-- The decoder of events: `kind` is 0 for PRESS, 1 for CLICK (R72). -/
def decodeEvent (kind : BitVec 1) (ts : Timestamp) : Instr :=
  if kind == Map.kindPress then .evPress ts else .evClick ts

/-- The key `{rw, a}` (R71): `rw` is bit `Map.rwBit`. -/
def keyOf (rw : BitVec 1) (a : Offset) : Key := rw ++ a

/-- The configuration vector from its ten bytes (log 10). -/
def cfgOfBytes (d0 d1 e br gr c0 c1 o0 o1 i2c : Byte) : Cfg :=
  { debounce := Machine.halfOf d1 d0, pressedEnable := e.getLsbD 0, clickedEnable := e.getLsbD 1,
    ledBrightness := br, ledPulseGranularity := gr, ledPulseCycleTime := Machine.halfOf c1 c0,
    ledPulseOffTime := Machine.halfOf o1 o0, i2cAddress := i2c }

/-- The decoder of a format, total on any bytes. Only the bits that carry `rw`, `kind` and the two enables are looked
at in their bytes: a row applies when `key & mask == match` (R80), and the key has no other bits (log 10). -/
def decode : Format → List Byte → Except DecodeError Instr
  | .req, a :: d :: rest =>
    if d.getLsbD 0 then
      match rest with
      | [] => .ok (decodeKey (keyOf 1#1 a) 0)
      | _ :: _ => .error .trailingBytes
    else
      match rest with
      | [] => .error .tooShort
      | [v] => .ok (decodeKey (keyOf 0#1 a) v)
      | _ :: _ :: _ => .error .trailingBytes
  | .req, _ => .error .tooShort
  | .evt, [k, b0, b1, b2, b3] => .ok (decodeEvent (k.setWidth 1) (Machine.leWord b0 b1 b2 b3))
  | .evt, _ :: _ :: _ :: _ :: _ :: _ :: _ => .error .trailingBytes
  | .evt, _ => .error .tooShort
  | .rst, [d0, d1, e, br, gr, c0, c1, o0, o1, i2c] => .ok (.reset (cfgOfBytes d0 d1 e br gr c0 c1 o0 o1 i2c))
  | .rst, _ :: _ :: _ :: _ :: _ :: _ :: _ :: _ :: _ :: _ :: _ :: _ => .error .trailingBytes
  | .rst, _ => .error .tooShort

/-- The bytes of a one-byte READ of address `a`. -/
def readBytesOf (a : Offset) : Format × List Byte := (.req, [a, 0x01#8])

/-- The bytes of a one-byte WRITE of `v` to address `a`. -/
def writeBytesOf (a : Offset) (v : Byte) : Format × List Byte := (.req, [a, 0x00#8, v])

/-- The bytes of an event. -/
def eventBytesOf (kind : Byte) (ts : Timestamp) : Format × List Byte :=
  (.evt, [kind, Machine.leByte ts 0, Machine.leByte ts 1, Machine.leByte ts 2, Machine.leByte ts 3])

/-- The ten bytes of a configuration vector (log 10). -/
def cfgBytesOf (c : Cfg) : List Byte :=
  [Machine.lowByte c.debounce, Machine.highByte c.debounce,
   0#6 ++ BitVec.ofBool c.clickedEnable ++ BitVec.ofBool c.pressedEnable, c.ledBrightness, c.ledPulseGranularity,
   Machine.lowByte c.ledPulseCycleTime, Machine.highByte c.ledPulseCycleTime,
   Machine.lowByte c.ledPulseOffTime, Machine.highByte c.ledPulseOffTime, c.i2cAddress]

/-- The encoder, from the keys of opcode_table.json (R71, R72, R80). -/
def encode : Instr → Format × List Byte
  | .rdButtonStatus => readBytesOf (Map.byteAddr Map.buttonStatus 0)
  | .rdButtonDebounceTimeB0 => readBytesOf (Map.byteAddr Map.buttonDebounceTime 0)
  | .rdButtonDebounceTimeB1 => readBytesOf (Map.byteAddr Map.buttonDebounceTime 1)
  | .rdInterruptConfig => readBytesOf (Map.byteAddr Map.interruptConfig 0)
  | .rdPressedQueueStatus => readBytesOf (Map.byteAddr Map.pressedQueueStatus 0)
  | .rdPressedQueueFrontB0 => readBytesOf (Map.byteAddr Map.pressedQueueFront 0)
  | .rdPressedQueueFrontB1 => readBytesOf (Map.byteAddr Map.pressedQueueFront 1)
  | .rdPressedQueueFrontB2 => readBytesOf (Map.byteAddr Map.pressedQueueFront 2)
  | .rdPressedQueueFrontB3 => readBytesOf (Map.byteAddr Map.pressedQueueFront 3)
  | .rdPressedQueueBackB0 => readBytesOf (Map.byteAddr Map.pressedQueueBack 0)
  | .rdPressedQueueBackB1 => readBytesOf (Map.byteAddr Map.pressedQueueBack 1)
  | .rdPressedQueueBackB2 => readBytesOf (Map.byteAddr Map.pressedQueueBack 2)
  | .rdPressedQueueBackB3 => readBytesOf (Map.byteAddr Map.pressedQueueBack 3)
  | .rdClickedQueueStatus => readBytesOf (Map.byteAddr Map.clickedQueueStatus 0)
  | .rdClickedQueueFrontB0 => readBytesOf (Map.byteAddr Map.clickedQueueFront 0)
  | .rdClickedQueueFrontB1 => readBytesOf (Map.byteAddr Map.clickedQueueFront 1)
  | .rdClickedQueueFrontB2 => readBytesOf (Map.byteAddr Map.clickedQueueFront 2)
  | .rdClickedQueueFrontB3 => readBytesOf (Map.byteAddr Map.clickedQueueFront 3)
  | .rdClickedQueueBackB0 => readBytesOf (Map.byteAddr Map.clickedQueueBack 0)
  | .rdClickedQueueBackB1 => readBytesOf (Map.byteAddr Map.clickedQueueBack 1)
  | .rdClickedQueueBackB2 => readBytesOf (Map.byteAddr Map.clickedQueueBack 2)
  | .rdClickedQueueBackB3 => readBytesOf (Map.byteAddr Map.clickedQueueBack 3)
  | .rdLedBrightness => readBytesOf (Map.byteAddr Map.ledBrightness 0)
  | .rdLedPulseGranularity => readBytesOf (Map.byteAddr Map.ledPulseGranularity 0)
  | .rdLedPulseCycleTimeB0 => readBytesOf (Map.byteAddr Map.ledPulseCycleTime 0)
  | .rdLedPulseCycleTimeB1 => readBytesOf (Map.byteAddr Map.ledPulseCycleTime 1)
  | .rdLedPulseOffTimeB0 => readBytesOf (Map.byteAddr Map.ledPulseOffTime 0)
  | .rdLedPulseOffTimeB1 => readBytesOf (Map.byteAddr Map.ledPulseOffTime 1)
  | .rdI2cAddress => readBytesOf (Map.byteAddr Map.i2cAddress 0)
  | .rdId => readBytesOf (Map.byteAddr Map.id 0)
  | .rdFirmwareMinor => readBytesOf (Map.byteAddr Map.firmwareMinor 0)
  | .rdFirmwareMajor => readBytesOf (Map.byteAddr Map.firmwareMajor 0)
  | .rdOor0 a => readBytesOf a
  | .rdOor1 a => readBytesOf a
  | .rdOor2 a => readBytesOf a
  | .wrButtonStatus v => writeBytesOf (Map.byteAddr Map.buttonStatus 0) v
  | .wrButtonDebounceTimeB0 v => writeBytesOf (Map.byteAddr Map.buttonDebounceTime 0) v
  | .wrButtonDebounceTimeB1 v => writeBytesOf (Map.byteAddr Map.buttonDebounceTime 1) v
  | .wrInterruptConfig v => writeBytesOf (Map.byteAddr Map.interruptConfig 0) v
  | .wrPressedQueueStatus v => writeBytesOf (Map.byteAddr Map.pressedQueueStatus 0) v
  | .wrPressedQueueFrontB0 v => writeBytesOf (Map.byteAddr Map.pressedQueueFront 0) v
  | .wrPressedQueueFrontB1 v => writeBytesOf (Map.byteAddr Map.pressedQueueFront 1) v
  | .wrPressedQueueFrontB2 v => writeBytesOf (Map.byteAddr Map.pressedQueueFront 2) v
  | .wrPressedQueueFrontB3 v => writeBytesOf (Map.byteAddr Map.pressedQueueFront 3) v
  | .wrPressedQueueBackB0 v => writeBytesOf (Map.byteAddr Map.pressedQueueBack 0) v
  | .wrPressedQueueBackB1 v => writeBytesOf (Map.byteAddr Map.pressedQueueBack 1) v
  | .wrPressedQueueBackB2 v => writeBytesOf (Map.byteAddr Map.pressedQueueBack 2) v
  | .wrPressedQueueBackB3 v => writeBytesOf (Map.byteAddr Map.pressedQueueBack 3) v
  | .wrClickedQueueStatus v => writeBytesOf (Map.byteAddr Map.clickedQueueStatus 0) v
  | .wrClickedQueueFrontB0 v => writeBytesOf (Map.byteAddr Map.clickedQueueFront 0) v
  | .wrClickedQueueFrontB1 v => writeBytesOf (Map.byteAddr Map.clickedQueueFront 1) v
  | .wrClickedQueueFrontB2 v => writeBytesOf (Map.byteAddr Map.clickedQueueFront 2) v
  | .wrClickedQueueFrontB3 v => writeBytesOf (Map.byteAddr Map.clickedQueueFront 3) v
  | .wrClickedQueueBackB0 v => writeBytesOf (Map.byteAddr Map.clickedQueueBack 0) v
  | .wrClickedQueueBackB1 v => writeBytesOf (Map.byteAddr Map.clickedQueueBack 1) v
  | .wrClickedQueueBackB2 v => writeBytesOf (Map.byteAddr Map.clickedQueueBack 2) v
  | .wrClickedQueueBackB3 v => writeBytesOf (Map.byteAddr Map.clickedQueueBack 3) v
  | .wrLedBrightness v => writeBytesOf (Map.byteAddr Map.ledBrightness 0) v
  | .wrLedPulseGranularity v => writeBytesOf (Map.byteAddr Map.ledPulseGranularity 0) v
  | .wrLedPulseCycleTimeB0 v => writeBytesOf (Map.byteAddr Map.ledPulseCycleTime 0) v
  | .wrLedPulseCycleTimeB1 v => writeBytesOf (Map.byteAddr Map.ledPulseCycleTime 1) v
  | .wrLedPulseOffTimeB0 v => writeBytesOf (Map.byteAddr Map.ledPulseOffTime 0) v
  | .wrLedPulseOffTimeB1 v => writeBytesOf (Map.byteAddr Map.ledPulseOffTime 1) v
  | .wrI2cAddress v => writeBytesOf (Map.byteAddr Map.i2cAddress 0) v
  | .wrId v => writeBytesOf (Map.byteAddr Map.id 0) v
  | .wrFirmwareMinor v => writeBytesOf (Map.byteAddr Map.firmwareMinor 0) v
  | .wrFirmwareMajor v => writeBytesOf (Map.byteAddr Map.firmwareMajor 0) v
  | .wrOor0 a v => writeBytesOf a v
  | .wrOor1 a v => writeBytesOf a v
  | .wrOor2 a v => writeBytesOf a v
  | .evPress ts => eventBytesOf (Map.kindPress.setWidth 8) ts
  | .evClick ts => eventBytesOf (Map.kindClick.setWidth 8) ts
  | .reset cfg => (.rst, cfgBytesOf cfg)

/-- The row that selects byte `j` of the field at `base` in one direction (R80). -/
def exactRow (rw : BitVec 1) (base j : Nat) : Key × Key :=
  (keyOf rw (Map.byteAddr base j), keyOf 1#1 Map.exactMask)

/-- The row that selects a range of addresses in one direction (R80). -/
def rangeRow (rw : BitVec 1) (range : Offset × Offset) : Key × Key :=
  (keyOf rw range.1, keyOf 1#1 range.2)

/-- The mask of an event's row: the one bit `kind` (R72, R80). -/
def kindMask : Key := (1#1).setWidth 9

/-- `match` and `mask` of an instruction's row in opcode_table.json (R80), over the 9-bit key; a format with a shorter key
has 0 in the bits it lacks. -/
def Instr.row : Instr → Key × Key
  | .rdButtonStatus => exactRow Map.rwRead Map.buttonStatus 0
  | .rdButtonDebounceTimeB0 => exactRow Map.rwRead Map.buttonDebounceTime 0
  | .rdButtonDebounceTimeB1 => exactRow Map.rwRead Map.buttonDebounceTime 1
  | .rdInterruptConfig => exactRow Map.rwRead Map.interruptConfig 0
  | .rdPressedQueueStatus => exactRow Map.rwRead Map.pressedQueueStatus 0
  | .rdPressedQueueFrontB0 => exactRow Map.rwRead Map.pressedQueueFront 0
  | .rdPressedQueueFrontB1 => exactRow Map.rwRead Map.pressedQueueFront 1
  | .rdPressedQueueFrontB2 => exactRow Map.rwRead Map.pressedQueueFront 2
  | .rdPressedQueueFrontB3 => exactRow Map.rwRead Map.pressedQueueFront 3
  | .rdPressedQueueBackB0 => exactRow Map.rwRead Map.pressedQueueBack 0
  | .rdPressedQueueBackB1 => exactRow Map.rwRead Map.pressedQueueBack 1
  | .rdPressedQueueBackB2 => exactRow Map.rwRead Map.pressedQueueBack 2
  | .rdPressedQueueBackB3 => exactRow Map.rwRead Map.pressedQueueBack 3
  | .rdClickedQueueStatus => exactRow Map.rwRead Map.clickedQueueStatus 0
  | .rdClickedQueueFrontB0 => exactRow Map.rwRead Map.clickedQueueFront 0
  | .rdClickedQueueFrontB1 => exactRow Map.rwRead Map.clickedQueueFront 1
  | .rdClickedQueueFrontB2 => exactRow Map.rwRead Map.clickedQueueFront 2
  | .rdClickedQueueFrontB3 => exactRow Map.rwRead Map.clickedQueueFront 3
  | .rdClickedQueueBackB0 => exactRow Map.rwRead Map.clickedQueueBack 0
  | .rdClickedQueueBackB1 => exactRow Map.rwRead Map.clickedQueueBack 1
  | .rdClickedQueueBackB2 => exactRow Map.rwRead Map.clickedQueueBack 2
  | .rdClickedQueueBackB3 => exactRow Map.rwRead Map.clickedQueueBack 3
  | .rdLedBrightness => exactRow Map.rwRead Map.ledBrightness 0
  | .rdLedPulseGranularity => exactRow Map.rwRead Map.ledPulseGranularity 0
  | .rdLedPulseCycleTimeB0 => exactRow Map.rwRead Map.ledPulseCycleTime 0
  | .rdLedPulseCycleTimeB1 => exactRow Map.rwRead Map.ledPulseCycleTime 1
  | .rdLedPulseOffTimeB0 => exactRow Map.rwRead Map.ledPulseOffTime 0
  | .rdLedPulseOffTimeB1 => exactRow Map.rwRead Map.ledPulseOffTime 1
  | .rdI2cAddress => exactRow Map.rwRead Map.i2cAddress 0
  | .rdId => exactRow Map.rwRead Map.id 0
  | .rdFirmwareMinor => exactRow Map.rwRead Map.firmwareMinor 0
  | .rdFirmwareMajor => exactRow Map.rwRead Map.firmwareMajor 0
  | .rdOor0 _ => rangeRow Map.rwRead Map.outOfRange0
  | .rdOor1 _ => rangeRow Map.rwRead Map.outOfRange1
  | .rdOor2 _ => rangeRow Map.rwRead Map.outOfRange2
  | .wrButtonStatus _ => exactRow Map.rwWrite Map.buttonStatus 0
  | .wrButtonDebounceTimeB0 _ => exactRow Map.rwWrite Map.buttonDebounceTime 0
  | .wrButtonDebounceTimeB1 _ => exactRow Map.rwWrite Map.buttonDebounceTime 1
  | .wrInterruptConfig _ => exactRow Map.rwWrite Map.interruptConfig 0
  | .wrPressedQueueStatus _ => exactRow Map.rwWrite Map.pressedQueueStatus 0
  | .wrPressedQueueFrontB0 _ => exactRow Map.rwWrite Map.pressedQueueFront 0
  | .wrPressedQueueFrontB1 _ => exactRow Map.rwWrite Map.pressedQueueFront 1
  | .wrPressedQueueFrontB2 _ => exactRow Map.rwWrite Map.pressedQueueFront 2
  | .wrPressedQueueFrontB3 _ => exactRow Map.rwWrite Map.pressedQueueFront 3
  | .wrPressedQueueBackB0 _ => exactRow Map.rwWrite Map.pressedQueueBack 0
  | .wrPressedQueueBackB1 _ => exactRow Map.rwWrite Map.pressedQueueBack 1
  | .wrPressedQueueBackB2 _ => exactRow Map.rwWrite Map.pressedQueueBack 2
  | .wrPressedQueueBackB3 _ => exactRow Map.rwWrite Map.pressedQueueBack 3
  | .wrClickedQueueStatus _ => exactRow Map.rwWrite Map.clickedQueueStatus 0
  | .wrClickedQueueFrontB0 _ => exactRow Map.rwWrite Map.clickedQueueFront 0
  | .wrClickedQueueFrontB1 _ => exactRow Map.rwWrite Map.clickedQueueFront 1
  | .wrClickedQueueFrontB2 _ => exactRow Map.rwWrite Map.clickedQueueFront 2
  | .wrClickedQueueFrontB3 _ => exactRow Map.rwWrite Map.clickedQueueFront 3
  | .wrClickedQueueBackB0 _ => exactRow Map.rwWrite Map.clickedQueueBack 0
  | .wrClickedQueueBackB1 _ => exactRow Map.rwWrite Map.clickedQueueBack 1
  | .wrClickedQueueBackB2 _ => exactRow Map.rwWrite Map.clickedQueueBack 2
  | .wrClickedQueueBackB3 _ => exactRow Map.rwWrite Map.clickedQueueBack 3
  | .wrLedBrightness _ => exactRow Map.rwWrite Map.ledBrightness 0
  | .wrLedPulseGranularity _ => exactRow Map.rwWrite Map.ledPulseGranularity 0
  | .wrLedPulseCycleTimeB0 _ => exactRow Map.rwWrite Map.ledPulseCycleTime 0
  | .wrLedPulseCycleTimeB1 _ => exactRow Map.rwWrite Map.ledPulseCycleTime 1
  | .wrLedPulseOffTimeB0 _ => exactRow Map.rwWrite Map.ledPulseOffTime 0
  | .wrLedPulseOffTimeB1 _ => exactRow Map.rwWrite Map.ledPulseOffTime 1
  | .wrI2cAddress _ => exactRow Map.rwWrite Map.i2cAddress 0
  | .wrId _ => exactRow Map.rwWrite Map.id 0
  | .wrFirmwareMinor _ => exactRow Map.rwWrite Map.firmwareMinor 0
  | .wrFirmwareMajor _ => exactRow Map.rwWrite Map.firmwareMajor 0
  | .wrOor0 _ _ => rangeRow Map.rwWrite Map.outOfRange0
  | .wrOor1 _ _ => rangeRow Map.rwWrite Map.outOfRange1
  | .wrOor2 _ _ => rangeRow Map.rwWrite Map.outOfRange2
  | .evPress _ => (Map.kindPress.setWidth 9, kindMask)
  | .evClick _ => (Map.kindClick.setWidth 9, kindMask)
  | .reset _ => (0, 0)

/-- The key that the bytes of an operation carry (R71, R72; RESET has a key of no bits, R80). -/
def keyOfBytes : Format → List Byte → Key
  | .req, a :: d :: _ => keyOf (d.setWidth 1) a
  | .evt, k :: _ => (k.setWidth 1).setWidth 9
  | _, _ => 0

/-- The rows of the request decoder: 32 addresses and three ranges for `rw` = 1, then the same for `rw` = 0 (R80). -/
def requestRows : List (Key × Key) :=
  [Map.rwRead, Map.rwWrite].flatMap fun rw =>
    (List.range Config.mapSize).map (fun a => exactRow rw a 0) ++
    [rangeRow rw Map.outOfRange0, rangeRow rw Map.outOfRange1, rangeRow rw Map.outOfRange2]

/-- Whether a row applies to a key: `key & mask == match` (R80). -/
def rowApplies (key : Key) (row : Key × Key) : Bool := (key &&& row.2) == row.1

/-- The format of a row whose key has `nbits` bits in whole bytes: 9 bits are two bytes (REQ), 1 bit is one (EVT), no
bit is none (RST) (R80). -/
def formatOfBits (nbits : Nat) : Format :=
  if nbits = 0 then .rst else if nbits ≤ 8 then .evt else .req

/-- An operation of the table, its bits numbered as the table numbers them, as the bytes of its format (log 10). -/
def layOut (nbits w : Nat) : List Byte :=
  match formatOfBits nbits with
  | .req =>
    if (Machine.byteOfNat w 1).getLsbD 0 then [Machine.byteOfNat w 0, Machine.byteOfNat w 1]
    else [Machine.byteOfNat w 0, Machine.byteOfNat w 1, Machine.byteOfNat w 2]
  | .evt => (List.range 5).map (Machine.byteOfNat w)
  | .rst => (List.range 10).map (Machine.byteOfNat w)

/-- The instruction the decoder reads from a word of the table. -/
def decodeTableWord (nbits w : Nat) : Option Instr :=
  match decode (formatOfBits nbits) (layOut nbits w) with
  | .ok i => some i
  | .error _ => none

end Sys2Proof
end

