-- ==== Sys2Proof/Machine/State.lean ====
section
/-! DEFINITION. The state: the spec's record `S` (10_state.md R20) as `Block`, the ports (R37, R38), and the model's own
fields; all of it plain data. -/

namespace Sys2Proof.Machine

/-- An Event Queue (40_queue.md R90; 10_state.md R31, R32). An index is 4 bits of range 0 to 14: "the value 15 is never
an index" (R91), so `Fin` holds exactly its values (log 12). -/
structure Queue where
  /-- `buf[0 .. CAPACITY-1]` -/
  buf : Vector Timestamp Config.capacity
  /-- the slot the next `push` writes -/
  head : Fin Config.capacity
  /-- the slot of the oldest retained entry -/
  tail : Fin Config.capacity
  /-- tells full from empty when `head == tail` -/
  full : Bool
deriving DecidableEq, Repr

/-- The whole state of the block, the record `S` of 10_state.md R20. -/
structure Block where
  isPressed : Bool
  hasBeenClicked : Bool
  debounce : Half
  pressedEnable : Bool
  clickedEnable : Bool
  /-- the interrupt latch (R25) -/
  status : Bool
  /-- `P`, the pressed Event Queue -/
  queueP : Queue
  /-- `C`, the clicked Event Queue -/
  queueC : Queue
  ledBrightness : Byte
  ledPulseGranularity : Byte
  ledPulseCycleTime : Half
  ledPulseOffTime : Half
  i2cAddress : Byte
deriving DecidableEq, Repr

/-- A bus request (30_encoding.md R70): `len` of a WRITE is the number of its bytes (10_state.md R37). -/
inductive Request where
  /-- READ, `rw` = 1 -/
  | read (offset : Offset) (len : Nat)
  /-- WRITE, `rw` = 0, the first byte goes to `offset` -/
  | write (offset : Offset) (wdata : List Byte)
deriving DecidableEq, Repr

/-- An event (30_encoding.md R72): `kind` 0 = PRESS, 1 = CLICK. -/
structure Event where
  kind : BitVec 1
  ts : Timestamp
deriving DecidableEq, Repr

/-- What the environment presents on the three input ports at one time (10_state.md R37, R38). `eventFirst` is the
order the block takes a request and an event presented together, which the spec leaves open (60_exceptions.md R203):
it is data, so that a claim for every state is a claim for both orders (log 6). -/
structure Presentation where
  rst : Option Cfg
  req : Option Request
  ev : Option Event
  eventFirst : Bool
deriving DecidableEq, Repr

/-- One byte of an accepted request, not yet served: the key `{rw, addr}` (30_encoding.md R71) and the written byte. -/
structure ByteAccess where
  rw : BitVec 1
  addr : Offset
  wdata : Byte
deriving DecidableEq, Repr

/-- The machine: the block, its ports, and the model's own fields (INVENTORY.md, State). -/
structure State where
  /-- the spec's state -/
  blk : Block
  /-- what the environment presents, the head now, the rest at later steps (log 5) -/
  inbox : List Presentation
  /-- the bytes of the request in service not yet served; used when `xactAtomic` is false (20_memory.md R59, log 8) -/
  serving : List ByteAccess
  /-- response port `rsp_err` of the last request (R37, log 4) -/
  rspErr : BitVec 1
  /-- response port `rsp_rdata` of the last request, first byte first (R37, log 4) -/
  rspData : List Byte
  /-- how many free values `any_32` have been drawn (log 3) -/
  draws : Nat
  /-- the parameter `XACT_ATOMIC` (00_scope.md R9), the same for a whole run (log 8) -/
  xactAtomic : Bool
deriving DecidableEq, Repr

/-- Why the machine stops with a fault: it never does. "Nothing in this block is treated as `fault` or `stuck`"
(93_implementation_defined.md; 60_exceptions.md R190), so no reason exists. -/
inductive Fault
deriving DecidableEq, Repr

/-- Why a step has no meaning. -/
inductive Refusal where
  /-- Raised by an arm of `exec` whose instruction has no meaning yet; safe. Every arm has one, so nothing raises it. -/
  | notModelled (mnemonic : String)
deriving DecidableEq, Repr

/-- What a step answers. -/
abbrev Result := Host.Outcome State Fault Refusal

/-- An Event Queue at reset: indices 0, not full (10_state.md R41). The slots are unspecified there; zero is the
model's choice for `State.reset` alone (log 2, DESIGN CHOICE, unsafe). -/
def Queue.empty : Queue :=
  { buf := Vector.replicate Config.capacity 0, head := 0, tail := 0, full := false }

/-- `CFG0` of 95_test_vectors.md: configuration cells and enables 0, `i2cAddress` `DEFAULT_ADDR` because nothing was
ever persisted (10_state.md R29). The zeros are the model's choice (log 1, DESIGN CHOICE, unsafe). -/
def cfg0 : Cfg :=
  { debounce := 0, pressedEnable := false, clickedEnable := false, ledBrightness := 0, ledPulseGranularity := 0,
    ledPulseCycleTime := 0, ledPulseOffTime := 0, i2cAddress := Config.defaultAddr }

/-- The block right after reset with `CFG0` (10_state.md R41, 70_reset_and_hazards.md R220). -/
def Block.reset : Block :=
  { isPressed := false, hasBeenClicked := false, debounce := cfg0.debounce,
    pressedEnable := cfg0.pressedEnable, clickedEnable := cfg0.clickedEnable, status := false,
    queueP := Queue.empty, queueC := Queue.empty,
    ledBrightness := cfg0.ledBrightness, ledPulseGranularity := cfg0.ledPulseGranularity,
    ledPulseCycleTime := cfg0.ledPulseCycleTime, ledPulseOffTime := cfg0.ledPulseOffTime,
    i2cAddress := cfg0.i2cAddress }

/-- The machine right after reset with `CFG0`, nothing presented, nothing answered (R41; logs 1, 2, 3, 4, 5, 8). -/
def State.reset : State :=
  { blk := Block.reset, inbox := [], serving := [], rspErr := Config.ok, rspData := [],
    draws := 0, xactAtomic := true }

end Sys2Proof.Machine
end

