-- ==== Sys2Proof/Machine/Queue.lean ====
section
/-! DEFINITION. The Event Queue and its six operations (40_queue.md). No port issues them: the bus and event
operations call them. -/

namespace Sys2Proof.Machine

/-- `inc(i) = (i + 1) mod CAPACITY` (40_queue.md R91). -/
def incIndex (i : Fin Config.capacity) : Fin Config.capacity :=
  ⟨(i.val + 1) % Config.capacity, Nat.mod_lt _ (by decide)⟩

/-- `dec(i) = (i + CAPACITY - 1) mod CAPACITY` (R91). -/
def decIndex (i : Fin Config.capacity) : Fin Config.capacity :=
  ⟨(i.val + Config.capacity - 1) % Config.capacity, Nat.mod_lt _ (by decide)⟩

/-- `isFull(q)` (R96). -/
def Queue.isFull (q : Queue) : Bool := q.full

/-- `isEmpty(q)` (R97). -/
def Queue.isEmpty (q : Queue) : Bool := !q.full && q.head == q.tail

/-- `size(q)` (R98). -/
def Queue.size (q : Queue) : Nat :=
  if q.full then Config.capacity else (q.head.val + Config.capacity - q.tail.val) % Config.capacity

/-- `push(q, t)`, the four statements of R92: a full queue first loses its oldest entry. -/
def Queue.push (q : Queue) (t : Timestamp) : Queue :=
  let tail := if q.full then incIndex q.tail else q.tail
  let head := incIndex q.head
  { buf := q.buf.set q.head.val t, head := head, tail := tail, full := head == tail }

/-- The result of `pop(q)` (R93); `none` is `NoData`, which no port shows (decision D13). -/
def Queue.popped (q : Queue) : Option Timestamp :=
  if q.isEmpty then none else some q.buf[q.tail.val]

/-- The queue after `pop(q)` (R93): an empty queue is unchanged, the slot keeps its value. -/
def Queue.pop (q : Queue) : Queue :=
  if q.isEmpty then q else { q with tail := incIndex q.tail, full := false }

/-- `front(q)` (R94): the newest entry; on an empty queue the draw `anyTs` the caller supplies (log 3). -/
def Queue.front (q : Queue) (anyTs : Timestamp) : Timestamp :=
  if q.isEmpty then anyTs else q.buf[(decIndex q.head).val]

/-- `back(q)` (R95): the oldest entry; on an empty queue the draw `anyTs` the caller supplies (log 3). -/
def Queue.back (q : Queue) (anyTs : Timestamp) : Timestamp :=
  if q.isEmpty then anyTs else q.buf[q.tail.val]

/-- A queue right after RESET (70_reset_and_hazards.md R220): indices 0, not full, every slot a draw of its own, the
draws counted from `n` (log 3). -/
def Queue.fresh (n : Nat) : Queue :=
  { buf := Vector.ofFn (fun i => Config.anyTimestamp (n + i.val)), head := 0, tail := 0, full := false }

end Sys2Proof.Machine
end

