-- ==== Sys2Proof/Machine/Flags.lean ====
section
/-! DEFINITION. The status bit-field generator (30_encoding.md R76 to R78, R81), the bits a written byte carries, and
the flag computations: write-0-to-clear and the interrupt condition (42_bus_write.md R142, R144;
43_events_interrupt.md R171 to R174). Reserved bits read 0 and are not looked at in a written byte (R81). -/

namespace Sys2Proof.Machine

/-- A flag at its bit position, every other bit 0 (R79 item 3). -/
def flagBit (f : Bool) (n : Nat) : Byte := if f then Map.bitMask n else 0

/-- `buttonStatus`: `isPressed`, `hasBeenClicked` (R76). -/
def buttonStatusByte (hasBeenClicked isPressed : Bool) : Byte :=
  flagBit hasBeenClicked Map.hasBeenClickedBit ||| flagBit isPressed Map.isPressedBit

/-- `interruptConfig`: `pressedEnable`, `clickedEnable`, `status` (R77). -/
def interruptConfigByte (status clickedEnable pressedEnable : Bool) : Byte :=
  flagBit status Map.statusBit ||| flagBit clickedEnable Map.clickedEnableBit |||
    flagBit pressedEnable Map.pressedEnableBit

/-- A queue status byte: `isFull`, `isEmpty`; `popRequest` always reads 0 (R78, 10_state.md R35). -/
def queueStatusByte (q : Queue) : Byte :=
  flagBit q.isEmpty Map.isEmptyBit ||| flagBit q.isFull Map.isFullBit

/-- Bit `hasBeenClicked` of a byte written to 0x00 (R76). -/
def writtenHasBeenClicked (v : Byte) : Bool := v.getLsbD Map.hasBeenClickedBit

/-- Bit `pressedEnable` of a byte written to 0x03 (R77). -/
def writtenPressedEnable (v : Byte) : Bool := v.getLsbD Map.pressedEnableBit

/-- Bit `clickedEnable` of a byte written to 0x03 (R77). -/
def writtenClickedEnable (v : Byte) : Bool := v.getLsbD Map.clickedEnableBit

/-- Bit `status` of a byte written to 0x03 (R77). -/
def writtenStatus (v : Byte) : Bool := v.getLsbD Map.statusBit

/-- Bit `popRequest` of a byte written to 0x04 or 0x0D (R78). -/
def writtenPopRequest (v : Byte) : Bool := v.getLsbD Map.popRequestBit

/-- A write-0-to-clear flag after a write: old value & written bit (00_scope.md R15 W0C). -/
def w0c (old written : Bool) : Bool := old && written

/-- The latch after an event of a kind with this enable (43_events_interrupt.md R173, R181). -/
def latchAfterEvent (status enable : Bool) : Bool := status || enable

end Sys2Proof.Machine
end

