-- ==== Sys2Proof/Machine/Ops.lean ====
section
/-! DEFINITION. The shared operations on the state: the response port, the free values, raising and acknowledging the
interrupt (what taking an exception and returning from one are here, 60_exceptions.md R199, R200), `ERR_RANGE` (R192),
the pop a `popRequest` write triggers, and the output ports (10_state.md R39). -/

namespace Sys2Proof.Machine

/-- The state with another block. -/
def State.setBlk (s : State) (b : Block) : State := { s with blk := b }

/-- One served byte on `rsp_rdata`, after those already there (10_state.md R37; 41_bus_read.md R110). -/
def State.respond (s : State) (b : Byte) : State := { s with rspData := s.rspData ++ [b] }

/-- The response port as a request is taken: no error, no data yet (log 4). -/
def State.beginResponse (s : State) : State := { s with rspErr := Config.ok, rspData := [] }

/-- `raise Reject(ERR_RANGE)` (60_exceptions.md R192): `rsp_err` is 1 and no data is returned; nothing else changes. -/
def State.rejectRange (s : State) : State := { s with rspErr := Config.errRange, rspData := [] }

/-- The value of the next draw `any_32` (00_scope.md R11, log 3). -/
def State.nextAny (s : State) : Timestamp := Config.anyTimestamp s.draws

/-- `n` draws have been made. -/
def State.drawn (s : State) (n : Nat) : State := { s with draws := s.draws + n }

/-- One byte of a view of `q` (41_bus_read.md R116): byte `j` of the word that `peek`, which is `front` or `back`,
gives. On an empty queue the word is a draw made for this byte alone, so the byte is an `any_8` of its own (log 3). -/
def State.respondView (s : State) (q : Queue) (peek : Queue → Timestamp → Timestamp) (j : Nat) : State :=
  (s.respond (leByte (peek q s.nextAny) j)).drawn (if q.isEmpty then 1 else 0)

/-- Raising the interrupt (60_exceptions.md R199; 43_events_interrupt.md R173): the event sets `status` if its kind is
enabled; nothing is saved, no mode changes, no vector is fetched. -/
def Block.raiseInterrupt (b : Block) (enable : Bool) : Block :=
  { b with status := latchAfterEvent b.status enable }

/-- Acknowledging the interrupt (60_exceptions.md R200; 43_events_interrupt.md R174): a written 0 clears `status`, a
written 1 leaves it; nothing is restored. -/
def Block.acknowledge (b : Block) (written : Bool) : Block :=
  { b with status := w0c b.status written }

/-- The queue after a byte is written to its status register (42_bus_write.md R145, R148): a 1 in `popRequest` makes
exactly one `pop`, whose result is discarded. -/
def Queue.request (q : Queue) (v : Byte) : Queue := if writtenPopRequest v then q.pop else q

/-- The block after `RESET(cfg)`, its two queues given (70_reset_and_hazards.md R220, 10_state.md R41). `cfg` is loaded
as it is, unchecked (R220 corner case c). -/
def Block.ofCfg (cfg : Cfg) (p c : Queue) : Block :=
  { isPressed := false, hasBeenClicked := false, debounce := cfg.debounce,
    pressedEnable := cfg.pressedEnable, clickedEnable := cfg.clickedEnable, status := false,
    queueP := p, queueC := c,
    ledBrightness := cfg.ledBrightness, ledPulseGranularity := cfg.ledPulseGranularity,
    ledPulseCycleTime := cfg.ledPulseCycleTime, ledPulseOffTime := cfg.ledPulseOffTime,
    i2cAddress := cfg.i2cAddress }

/-- The request in service, if any, is dropped: only a reset between the bytes of a request meets one (log 9). -/
def State.dropService (s : State) : State := { s with serving := [] }

/-- `int_pending` (10_state.md R39). -/
def State.intPending (s : State) : BitVec 1 := BitVec.ofBool s.blk.status

/-- `debounce_out` (R39). -/
def State.debounceOut (s : State) : Half := s.blk.debounce

/-- `led_brightness_out` (R39). -/
def State.ledBrightnessOut (s : State) : Byte := s.blk.ledBrightness

/-- `led_granularity_out` (R39). -/
def State.ledGranularityOut (s : State) : Byte := s.blk.ledPulseGranularity

/-- `led_cycle_out` (R39). -/
def State.ledCycleOut (s : State) : Half := s.blk.ledPulseCycleTime

/-- `led_off_out` (R39). -/
def State.ledOffOut (s : State) : Half := s.blk.ledPulseOffTime

/-- `i2c_addr_out` (R39). -/
def State.i2cAddrOut (s : State) : Byte := s.blk.i2cAddress

end Sys2Proof.Machine
end

