-- ==== Sys2Proof/Machine/Events.lean ====
section
/-! DEFINITION. The two events (43_events_interrupt.md R171, R172): the push, the flags and the interrupt evaluation in
one step, every right-hand side read in the state before it. The response port is the bus's and is left alone. -/

namespace Sys2Proof.Machine

/-- `EV_PRESS(ts)` (R171). -/
def execEvPress (ts : Timestamp) (s : State) : Result :=
  .next (s.setBlk (Block.raiseInterrupt
    { s.blk with queueP := s.blk.queueP.push ts, isPressed := true } s.blk.pressedEnable))

/-- `EV_CLICK(ts)` (R172). -/
def execEvClick (ts : Timestamp) (s : State) : Result :=
  .next (s.setBlk (Block.raiseInterrupt
    { s.blk with queueC := s.blk.queueC.push ts, hasBeenClicked := true, isPressed := false } s.blk.clickedEnable))

end Sys2Proof.Machine
end

