-- ==== Sys2Proof/Machine/Read.lean ====
section
/-! DEFINITION. The RD rows: `RB(a)`, the byte a host reads at each address (41_bus_read.md R111 to R130). Each appends
its byte to the response and changes no element of the block (R111). -/

namespace Sys2Proof.Machine

/-- `RD.buttonStatus`, address 0x00 (R112). -/
def execRdButtonStatus (s : State) : Result :=
  .next (s.respond (buttonStatusByte s.blk.hasBeenClicked s.blk.isPressed))

/-- `RD.buttonDebounceTime.b0`, address 0x01 (R113). -/
def execRdButtonDebounceTimeB0 (s : State) : Result :=
  .next (s.respond (lowByte s.blk.debounce))

/-- `RD.buttonDebounceTime.b1`, address 0x02 (R113). -/
def execRdButtonDebounceTimeB1 (s : State) : Result :=
  .next (s.respond (highByte s.blk.debounce))

/-- `RD.interruptConfig`, address 0x03 (R114). -/
def execRdInterruptConfig (s : State) : Result :=
  .next (s.respond (interruptConfigByte s.blk.status s.blk.clickedEnable s.blk.pressedEnable))

/-- `RD.pressedQueueStatus`, address 0x04 (R115). -/
def execRdPressedQueueStatus (s : State) : Result :=
  .next (s.respond (queueStatusByte s.blk.queueP))

/-- `RD.pressedQueueFront.b0`, address 0x05 (R117). -/
def execRdPressedQueueFrontB0 (s : State) : Result :=
  .next (s.respondView s.blk.queueP Queue.front 0)

/-- `RD.pressedQueueFront.b1`, address 0x06 (R117). -/
def execRdPressedQueueFrontB1 (s : State) : Result :=
  .next (s.respondView s.blk.queueP Queue.front 1)

/-- `RD.pressedQueueFront.b2`, address 0x07 (R117). -/
def execRdPressedQueueFrontB2 (s : State) : Result :=
  .next (s.respondView s.blk.queueP Queue.front 2)

/-- `RD.pressedQueueFront.b3`, address 0x08 (R117). -/
def execRdPressedQueueFrontB3 (s : State) : Result :=
  .next (s.respondView s.blk.queueP Queue.front 3)

/-- `RD.pressedQueueBack.b0`, address 0x09 (R118). -/
def execRdPressedQueueBackB0 (s : State) : Result :=
  .next (s.respondView s.blk.queueP Queue.back 0)

/-- `RD.pressedQueueBack.b1`, address 0x0A (R118). -/
def execRdPressedQueueBackB1 (s : State) : Result :=
  .next (s.respondView s.blk.queueP Queue.back 1)

/-- `RD.pressedQueueBack.b2`, address 0x0B (R118). -/
def execRdPressedQueueBackB2 (s : State) : Result :=
  .next (s.respondView s.blk.queueP Queue.back 2)

/-- `RD.pressedQueueBack.b3`, address 0x0C (R118). -/
def execRdPressedQueueBackB3 (s : State) : Result :=
  .next (s.respondView s.blk.queueP Queue.back 3)

/-- `RD.clickedQueueStatus`, address 0x0D (R119). -/
def execRdClickedQueueStatus (s : State) : Result :=
  .next (s.respond (queueStatusByte s.blk.queueC))

/-- `RD.clickedQueueFront.b0`, address 0x0E (R120). -/
def execRdClickedQueueFrontB0 (s : State) : Result :=
  .next (s.respondView s.blk.queueC Queue.front 0)

/-- `RD.clickedQueueFront.b1`, address 0x0F (R120). -/
def execRdClickedQueueFrontB1 (s : State) : Result :=
  .next (s.respondView s.blk.queueC Queue.front 1)

/-- `RD.clickedQueueFront.b2`, address 0x10 (R120). -/
def execRdClickedQueueFrontB2 (s : State) : Result :=
  .next (s.respondView s.blk.queueC Queue.front 2)

/-- `RD.clickedQueueFront.b3`, address 0x11 (R120). -/
def execRdClickedQueueFrontB3 (s : State) : Result :=
  .next (s.respondView s.blk.queueC Queue.front 3)

/-- `RD.clickedQueueBack.b0`, address 0x12 (R121). -/
def execRdClickedQueueBackB0 (s : State) : Result :=
  .next (s.respondView s.blk.queueC Queue.back 0)

/-- `RD.clickedQueueBack.b1`, address 0x13 (R121). -/
def execRdClickedQueueBackB1 (s : State) : Result :=
  .next (s.respondView s.blk.queueC Queue.back 1)

/-- `RD.clickedQueueBack.b2`, address 0x14 (R121). -/
def execRdClickedQueueBackB2 (s : State) : Result :=
  .next (s.respondView s.blk.queueC Queue.back 2)

/-- `RD.clickedQueueBack.b3`, address 0x15 (R121). -/
def execRdClickedQueueBackB3 (s : State) : Result :=
  .next (s.respondView s.blk.queueC Queue.back 3)

/-- `RD.ledBrightness`, address 0x16 (R122). -/
def execRdLedBrightness (s : State) : Result :=
  .next (s.respond s.blk.ledBrightness)

/-- `RD.ledPulseGranularity`, address 0x17 (R123). -/
def execRdLedPulseGranularity (s : State) : Result :=
  .next (s.respond s.blk.ledPulseGranularity)

/-- `RD.ledPulseCycleTime.b0`, address 0x18 (R124). -/
def execRdLedPulseCycleTimeB0 (s : State) : Result :=
  .next (s.respond (lowByte s.blk.ledPulseCycleTime))

/-- `RD.ledPulseCycleTime.b1`, address 0x19 (R124). -/
def execRdLedPulseCycleTimeB1 (s : State) : Result :=
  .next (s.respond (highByte s.blk.ledPulseCycleTime))

/-- `RD.ledPulseOffTime.b0`, address 0x1A (R125). -/
def execRdLedPulseOffTimeB0 (s : State) : Result :=
  .next (s.respond (lowByte s.blk.ledPulseOffTime))

/-- `RD.ledPulseOffTime.b1`, address 0x1B (R125). -/
def execRdLedPulseOffTimeB1 (s : State) : Result :=
  .next (s.respond (highByte s.blk.ledPulseOffTime))

/-- `RD.i2cAddress`, address 0x1C (R126). -/
def execRdI2cAddress (s : State) : Result :=
  .next (s.respond s.blk.i2cAddress)

/-- `RD.id`, address 0x1D (R127). -/
def execRdId (s : State) : Result :=
  .next (s.respond Config.deviceId)

/-- `RD.firmwareMinor`, address 0x1E (R128). -/
def execRdFirmwareMinor (s : State) : Result :=
  .next (s.respond Config.fwMinor)

/-- `RD.firmwareMajor`, address 0x1F (R129). -/
def execRdFirmwareMajor (s : State) : Result :=
  .next (s.respond Config.fwMajor)

/-- `RD.OOR.0` (R130): the request that names this address is rejected before its first byte. -/
def execRdOor0 (_ : Offset) (s : State) : Result := .next s.rejectRange

/-- `RD.OOR.1` (R130): the request that names this address is rejected before its first byte. -/
def execRdOor1 (_ : Offset) (s : State) : Result := .next s.rejectRange

/-- `RD.OOR.2` (R130): the request that names this address is rejected before its first byte. -/
def execRdOor2 (_ : Offset) (s : State) : Result := .next s.rejectRange

end Sys2Proof.Machine
end

