-- ==== Sys2Proof/Machine/Reset.lean ====
section
/-! DEFINITION. The RESET operation (70_reset_and_hazards.md R220). -/

namespace Sys2Proof.Machine

/-- `RESET(CFG)` (R220): every element of the block as R41 says, each of the 30 slots a free value of its own (log 3).
A request in service is dropped and the response port emptied (log 9). -/
def execReset (cfg : Cfg) (s : State) : Result :=
  .next (((s.setBlk (Block.ofCfg cfg (Queue.fresh s.draws) (Queue.fresh (s.draws + Config.capacity)))).drawn
    (2 * Config.capacity)).dropService.beginResponse)

end Sys2Proof.Machine
end

