-- ==== Sys2Proof/Machine/Write.lean ====
section
/-! DEFINITION. The WR rows: `WB(a, v)`, what a written byte does at each address (42_bus_write.md R141 to R159). None
raises an exception; a byte that is ignored leaves the state as it is (60_exceptions.md R194). -/

namespace Sys2Proof.Machine

/-- `WR.buttonStatus`, address 0x00 (R142). The other bits are discarded. -/
def execWrButtonStatus (v : Byte) (s : State) : Result :=
  .next (s.setBlk { s.blk with hasBeenClicked := w0c s.blk.hasBeenClicked (writtenHasBeenClicked v) })

/-- `WR.buttonDebounceTime.b0`, address 0x01 (R143). -/
def execWrButtonDebounceTimeB0 (v : Byte) (s : State) : Result :=
  .next (s.setBlk { s.blk with debounce := setLowByte s.blk.debounce v })

/-- `WR.buttonDebounceTime.b1`, address 0x02 (R143). -/
def execWrButtonDebounceTimeB1 (v : Byte) (s : State) : Result :=
  .next (s.setBlk { s.blk with debounce := setHighByte s.blk.debounce v })

/-- `WR.interruptConfig`, address 0x03 (R144). `v[7:3]` is discarded. -/
def execWrInterruptConfig (v : Byte) (s : State) : Result :=
  .next (s.setBlk (Block.acknowledge
    { s.blk with pressedEnable := writtenPressedEnable v, clickedEnable := writtenClickedEnable v } (writtenStatus v)))

/-- `WR.pressedQueueStatus`, address 0x04 (R145). Nothing is stored. -/
def execWrPressedQueueStatus (v : Byte) (s : State) : Result :=
  .next (s.setBlk { s.blk with queueP := s.blk.queueP.request v })

/-- `WR.pressedQueueFront.b0`, address 0x05 (R146): read-only, `v` is discarded. -/
def execWrPressedQueueFrontB0 (_ : Byte) (s : State) : Result := .next s

/-- `WR.pressedQueueFront.b1`, address 0x06 (R146): read-only, `v` is discarded. -/
def execWrPressedQueueFrontB1 (_ : Byte) (s : State) : Result := .next s

/-- `WR.pressedQueueFront.b2`, address 0x07 (R146): read-only, `v` is discarded. -/
def execWrPressedQueueFrontB2 (_ : Byte) (s : State) : Result := .next s

/-- `WR.pressedQueueFront.b3`, address 0x08 (R146): read-only, `v` is discarded. -/
def execWrPressedQueueFrontB3 (_ : Byte) (s : State) : Result := .next s

/-- `WR.pressedQueueBack.b0`, address 0x09 (R147): read-only, `v` is discarded. -/
def execWrPressedQueueBackB0 (_ : Byte) (s : State) : Result := .next s

/-- `WR.pressedQueueBack.b1`, address 0x0A (R147): read-only, `v` is discarded. -/
def execWrPressedQueueBackB1 (_ : Byte) (s : State) : Result := .next s

/-- `WR.pressedQueueBack.b2`, address 0x0B (R147): read-only, `v` is discarded. -/
def execWrPressedQueueBackB2 (_ : Byte) (s : State) : Result := .next s

/-- `WR.pressedQueueBack.b3`, address 0x0C (R147): read-only, `v` is discarded. -/
def execWrPressedQueueBackB3 (_ : Byte) (s : State) : Result := .next s

/-- `WR.clickedQueueStatus`, address 0x0D (R148). Nothing is stored. -/
def execWrClickedQueueStatus (v : Byte) (s : State) : Result :=
  .next (s.setBlk { s.blk with queueC := s.blk.queueC.request v })

/-- `WR.clickedQueueFront.b0`, address 0x0E (R149): read-only, `v` is discarded. -/
def execWrClickedQueueFrontB0 (_ : Byte) (s : State) : Result := .next s

/-- `WR.clickedQueueFront.b1`, address 0x0F (R149): read-only, `v` is discarded. -/
def execWrClickedQueueFrontB1 (_ : Byte) (s : State) : Result := .next s

/-- `WR.clickedQueueFront.b2`, address 0x10 (R149): read-only, `v` is discarded. -/
def execWrClickedQueueFrontB2 (_ : Byte) (s : State) : Result := .next s

/-- `WR.clickedQueueFront.b3`, address 0x11 (R149): read-only, `v` is discarded. -/
def execWrClickedQueueFrontB3 (_ : Byte) (s : State) : Result := .next s

/-- `WR.clickedQueueBack.b0`, address 0x12 (R150): read-only, `v` is discarded. -/
def execWrClickedQueueBackB0 (_ : Byte) (s : State) : Result := .next s

/-- `WR.clickedQueueBack.b1`, address 0x13 (R150): read-only, `v` is discarded. -/
def execWrClickedQueueBackB1 (_ : Byte) (s : State) : Result := .next s

/-- `WR.clickedQueueBack.b2`, address 0x14 (R150): read-only, `v` is discarded. -/
def execWrClickedQueueBackB2 (_ : Byte) (s : State) : Result := .next s

/-- `WR.clickedQueueBack.b3`, address 0x15 (R150): read-only, `v` is discarded. -/
def execWrClickedQueueBackB3 (_ : Byte) (s : State) : Result := .next s

/-- `WR.ledBrightness`, address 0x16 (R151). -/
def execWrLedBrightness (v : Byte) (s : State) : Result :=
  .next (s.setBlk { s.blk with ledBrightness := v })

/-- `WR.ledPulseGranularity`, address 0x17 (R152). -/
def execWrLedPulseGranularity (v : Byte) (s : State) : Result :=
  .next (s.setBlk { s.blk with ledPulseGranularity := v })

/-- `WR.ledPulseCycleTime.b0`, address 0x18 (R153). -/
def execWrLedPulseCycleTimeB0 (v : Byte) (s : State) : Result :=
  .next (s.setBlk { s.blk with ledPulseCycleTime := setLowByte s.blk.ledPulseCycleTime v })

/-- `WR.ledPulseCycleTime.b1`, address 0x19 (R153). -/
def execWrLedPulseCycleTimeB1 (v : Byte) (s : State) : Result :=
  .next (s.setBlk { s.blk with ledPulseCycleTime := setHighByte s.blk.ledPulseCycleTime v })

/-- `WR.ledPulseOffTime.b0`, address 0x1A (R154). -/
def execWrLedPulseOffTimeB0 (v : Byte) (s : State) : Result :=
  .next (s.setBlk { s.blk with ledPulseOffTime := setLowByte s.blk.ledPulseOffTime v })

/-- `WR.ledPulseOffTime.b1`, address 0x1B (R154). -/
def execWrLedPulseOffTimeB1 (v : Byte) (s : State) : Result :=
  .next (s.setBlk { s.blk with ledPulseOffTime := setHighByte s.blk.ledPulseOffTime v })

/-- `WR.i2cAddress`, address 0x1C (R155). -/
def execWrI2cAddress (v : Byte) (s : State) : Result :=
  .next (s.setBlk { s.blk with i2cAddress := v })

/-- `WR.id`, address 0x1D (R156): read-only, `v` is discarded. -/
def execWrId (_ : Byte) (s : State) : Result := .next s

/-- `WR.firmwareMinor`, address 0x1E (R157): read-only, `v` is discarded. -/
def execWrFirmwareMinor (_ : Byte) (s : State) : Result := .next s

/-- `WR.firmwareMajor`, address 0x1F (R158): read-only, `v` is discarded. -/
def execWrFirmwareMajor (_ : Byte) (s : State) : Result := .next s

/-- `WR.OOR.0` (R159): the request that names this address is rejected before its first byte. -/
def execWrOor0 (_ : Offset) (_ : Byte) (s : State) : Result := .next s.rejectRange

/-- `WR.OOR.1` (R159): the request that names this address is rejected before its first byte. -/
def execWrOor1 (_ : Offset) (_ : Byte) (s : State) : Result := .next s.rejectRange

/-- `WR.OOR.2` (R159): the request that names this address is rejected before its first byte. -/
def execWrOor2 (_ : Offset) (_ : Byte) (s : State) : Result := .next s.rejectRange

end Sys2Proof.Machine
end

