-- ==== Sys2Proof/Machine/Dispatch.lean ====
section
/-! DEFINITION. What each row of the decoder does: one arm a row of spec/opcode_table.json. -/

namespace Sys2Proof.Machine

def exec (i : Instr) (s : State) : Host.Outcome State Fault Refusal :=
  match i with
  | .rdButtonStatus => Sys2Proof.Machine.execRdButtonStatus s
  | .rdButtonDebounceTimeB0 => Sys2Proof.Machine.execRdButtonDebounceTimeB0 s
  | .rdButtonDebounceTimeB1 => Sys2Proof.Machine.execRdButtonDebounceTimeB1 s
  | .rdInterruptConfig => Sys2Proof.Machine.execRdInterruptConfig s
  | .rdPressedQueueStatus => Sys2Proof.Machine.execRdPressedQueueStatus s
  | .rdPressedQueueFrontB0 => Sys2Proof.Machine.execRdPressedQueueFrontB0 s
  | .rdPressedQueueFrontB1 => Sys2Proof.Machine.execRdPressedQueueFrontB1 s
  | .rdPressedQueueFrontB2 => Sys2Proof.Machine.execRdPressedQueueFrontB2 s
  | .rdPressedQueueFrontB3 => Sys2Proof.Machine.execRdPressedQueueFrontB3 s
  | .rdPressedQueueBackB0 => Sys2Proof.Machine.execRdPressedQueueBackB0 s
  | .rdPressedQueueBackB1 => Sys2Proof.Machine.execRdPressedQueueBackB1 s
  | .rdPressedQueueBackB2 => Sys2Proof.Machine.execRdPressedQueueBackB2 s
  | .rdPressedQueueBackB3 => Sys2Proof.Machine.execRdPressedQueueBackB3 s
  | .rdClickedQueueStatus => Sys2Proof.Machine.execRdClickedQueueStatus s
  | .rdClickedQueueFrontB0 => Sys2Proof.Machine.execRdClickedQueueFrontB0 s
  | .rdClickedQueueFrontB1 => Sys2Proof.Machine.execRdClickedQueueFrontB1 s
  | .rdClickedQueueFrontB2 => Sys2Proof.Machine.execRdClickedQueueFrontB2 s
  | .rdClickedQueueFrontB3 => Sys2Proof.Machine.execRdClickedQueueFrontB3 s
  | .rdClickedQueueBackB0 => Sys2Proof.Machine.execRdClickedQueueBackB0 s
  | .rdClickedQueueBackB1 => Sys2Proof.Machine.execRdClickedQueueBackB1 s
  | .rdClickedQueueBackB2 => Sys2Proof.Machine.execRdClickedQueueBackB2 s
  | .rdClickedQueueBackB3 => Sys2Proof.Machine.execRdClickedQueueBackB3 s
  | .rdLedBrightness => Sys2Proof.Machine.execRdLedBrightness s
  | .rdLedPulseGranularity => Sys2Proof.Machine.execRdLedPulseGranularity s
  | .rdLedPulseCycleTimeB0 => Sys2Proof.Machine.execRdLedPulseCycleTimeB0 s
  | .rdLedPulseCycleTimeB1 => Sys2Proof.Machine.execRdLedPulseCycleTimeB1 s
  | .rdLedPulseOffTimeB0 => Sys2Proof.Machine.execRdLedPulseOffTimeB0 s
  | .rdLedPulseOffTimeB1 => Sys2Proof.Machine.execRdLedPulseOffTimeB1 s
  | .rdI2cAddress => Sys2Proof.Machine.execRdI2cAddress s
  | .rdId => Sys2Proof.Machine.execRdId s
  | .rdFirmwareMinor => Sys2Proof.Machine.execRdFirmwareMinor s
  | .rdFirmwareMajor => Sys2Proof.Machine.execRdFirmwareMajor s
  | .rdOor0 a => Sys2Proof.Machine.execRdOor0 a s
  | .rdOor1 a => Sys2Proof.Machine.execRdOor1 a s
  | .rdOor2 a => Sys2Proof.Machine.execRdOor2 a s
  | .wrButtonStatus v => Sys2Proof.Machine.execWrButtonStatus v s
  | .wrButtonDebounceTimeB0 v => Sys2Proof.Machine.execWrButtonDebounceTimeB0 v s
  | .wrButtonDebounceTimeB1 v => Sys2Proof.Machine.execWrButtonDebounceTimeB1 v s
  | .wrInterruptConfig v => Sys2Proof.Machine.execWrInterruptConfig v s
  | .wrPressedQueueStatus v => Sys2Proof.Machine.execWrPressedQueueStatus v s
  | .wrPressedQueueFrontB0 v => Sys2Proof.Machine.execWrPressedQueueFrontB0 v s
  | .wrPressedQueueFrontB1 v => Sys2Proof.Machine.execWrPressedQueueFrontB1 v s
  | .wrPressedQueueFrontB2 v => Sys2Proof.Machine.execWrPressedQueueFrontB2 v s
  | .wrPressedQueueFrontB3 v => Sys2Proof.Machine.execWrPressedQueueFrontB3 v s
  | .wrPressedQueueBackB0 v => Sys2Proof.Machine.execWrPressedQueueBackB0 v s
  | .wrPressedQueueBackB1 v => Sys2Proof.Machine.execWrPressedQueueBackB1 v s
  | .wrPressedQueueBackB2 v => Sys2Proof.Machine.execWrPressedQueueBackB2 v s
  | .wrPressedQueueBackB3 v => Sys2Proof.Machine.execWrPressedQueueBackB3 v s
  | .wrClickedQueueStatus v => Sys2Proof.Machine.execWrClickedQueueStatus v s
  | .wrClickedQueueFrontB0 v => Sys2Proof.Machine.execWrClickedQueueFrontB0 v s
  | .wrClickedQueueFrontB1 v => Sys2Proof.Machine.execWrClickedQueueFrontB1 v s
  | .wrClickedQueueFrontB2 v => Sys2Proof.Machine.execWrClickedQueueFrontB2 v s
  | .wrClickedQueueFrontB3 v => Sys2Proof.Machine.execWrClickedQueueFrontB3 v s
  | .wrClickedQueueBackB0 v => Sys2Proof.Machine.execWrClickedQueueBackB0 v s
  | .wrClickedQueueBackB1 v => Sys2Proof.Machine.execWrClickedQueueBackB1 v s
  | .wrClickedQueueBackB2 v => Sys2Proof.Machine.execWrClickedQueueBackB2 v s
  | .wrClickedQueueBackB3 v => Sys2Proof.Machine.execWrClickedQueueBackB3 v s
  | .wrLedBrightness v => Sys2Proof.Machine.execWrLedBrightness v s
  | .wrLedPulseGranularity v => Sys2Proof.Machine.execWrLedPulseGranularity v s
  | .wrLedPulseCycleTimeB0 v => Sys2Proof.Machine.execWrLedPulseCycleTimeB0 v s
  | .wrLedPulseCycleTimeB1 v => Sys2Proof.Machine.execWrLedPulseCycleTimeB1 v s
  | .wrLedPulseOffTimeB0 v => Sys2Proof.Machine.execWrLedPulseOffTimeB0 v s
  | .wrLedPulseOffTimeB1 v => Sys2Proof.Machine.execWrLedPulseOffTimeB1 v s
  | .wrI2cAddress v => Sys2Proof.Machine.execWrI2cAddress v s
  | .wrId v => Sys2Proof.Machine.execWrId v s
  | .wrFirmwareMinor v => Sys2Proof.Machine.execWrFirmwareMinor v s
  | .wrFirmwareMajor v => Sys2Proof.Machine.execWrFirmwareMajor v s
  | .wrOor0 a v => Sys2Proof.Machine.execWrOor0 a v s
  | .wrOor1 a v => Sys2Proof.Machine.execWrOor1 a v s
  | .wrOor2 a v => Sys2Proof.Machine.execWrOor2 a v s
  | .evPress ts => Sys2Proof.Machine.execEvPress ts s
  | .evClick ts => Sys2Proof.Machine.execEvClick ts s
  | .reset cfg => Sys2Proof.Machine.execReset cfg s

end Sys2Proof.Machine
end

