-- ==== Sys2Proof/Machine/Bus.lean ====
section
/-! DEFINITION. How the operations presented on the ports are taken, one a step: the range check and the service of a
request byte by byte (41_bus_read.md R110, 42_bus_write.md R140), atomic or not (20_memory.md R58, R59), the order of
simultaneous operations (60_exceptions.md R203, R204), and how the bytes of an operation are presented. -/

namespace Sys2Proof.Machine

/-- The accesses of a READ from byte address `a`, ascending (R110). -/
def readAccesses : Nat → Nat → List ByteAccess
  | _, 0 => []
  | a, n + 1 => { rw := 1#1, addr := BitVec.ofNat 8 a, wdata := 0 } :: readAccesses (a + 1) n

/-- The accesses of a WRITE from byte address `a`, ascending (R140). -/
def writeAccesses : Nat → List Byte → List ByteAccess
  | _, [] => []
  | a, v :: vs => { rw := 0#1, addr := BitVec.ofNat 8 a, wdata := v } :: writeAccesses (a + 1) vs

/-- The bytes of an accepted request, in the order they are served. -/
def Request.accesses : Request → List ByteAccess
  | .read offset len => readAccesses offset.toNat len
  | .write offset wdata => writeAccesses offset.toNat wdata

/-- The byte address of a request's first byte (30_encoding.md R70). -/
def Request.offset : Request → Offset
  | .read offset _ => offset
  | .write offset _ => offset

/-- The count of a request's data bytes (R70). -/
def Request.len : Request → Nat
  | .read _ len => len
  | .write _ wdata => wdata.length

/-- The range check, a sum of natural numbers with no wrap (30_encoding.md R82). -/
def Request.inRange (r : Request) : Bool := r.offset.toNat + r.len ≤ Config.mapSize

/-- The first address outside the map that a rejected request names, or its offset if it names none (log 11): the
access whose row, an out-of-range row, stands for the rejection (30_encoding.md R71, R80). -/
def outOfMap (offset : Offset) : Offset :=
  if offset.toNat < Config.mapSize then BitVec.ofNat 8 Config.mapSize else offset

/-- The out-of-range access of a rejected request (log 11). -/
def Request.rejected : Request → ByteAccess
  | .read offset _ => { rw := 1#1, addr := outOfMap offset, wdata := 0 }
  | .write offset wdata =>
    { rw := 0#1, addr := outOfMap offset, wdata := wdata.getD ((outOfMap offset).toNat - offset.toNat) 0 }

/-- The row an access decodes to (30_encoding.md R71). -/
def ByteAccess.instr (b : ByteAccess) : Instr := decodeKey (keyOf b.rw b.addr) b.wdata

/-- The accesses of a request served one after another within one step (20_memory.md R58). -/
def serveAll : List ByteAccess → State → Result
  | [], s => .next s
  | b :: bs, s =>
    match exec b.instr s with
    | .next s' => serveAll bs s'
    | .fault r => .fault r
    | .refused r => .refused r

/-- One access of the request in service (20_memory.md R59); with none in service nothing happens (log 15). -/
def serveNext (s : State) : Result :=
  match s.serving with
  | [] => .next s
  | b :: bs => exec b.instr { s with serving := bs }

/-- A request is taken: the response port is emptied, then the request is rejected whole, or served whole
(`XACT_ATOMIC`), or accepted and its first byte served (R110, R140; 20_memory.md R58, R59; log 8). -/
def takeRequest (r : Request) (s : State) : Result :=
  if r.inRange then
    if s.xactAtomic then serveAll r.accesses s.beginResponse
    else serveNext { s.beginResponse with serving := r.accesses }
  else exec r.rejected.instr s.beginResponse

/-- Whether a presentation holds nothing more to take. -/
def Presentation.isIdle (p : Presentation) : Bool := p.rst.isNone && p.req.isNone && p.ev.isNone

/-- What stays presented: the rest of this presentation, if any, and the later ones. -/
def requeue (p : Presentation) (rest : List Presentation) : List Presentation :=
  if p.isIdle then rest else p :: rest

/-- The bus's turn: the request in service first, then the one presented (60_exceptions.md R204: one request at a
time, the next waits; log 8). With neither, nothing is done (log 15). -/
def busTurn (p : Presentation) (rest : List Presentation) (s : State) : Result :=
  if s.serving.isEmpty then
    match p.req with
    | none => .next { s with inbox := requeue p rest }
    | some r => takeRequest r { s with inbox := requeue { p with req := none } rest }
  else serveNext { s with inbox := requeue p rest }

/-- The event source's turn (60_exceptions.md R204: one event a step). -/
def eventTurn (e : Event) (p : Presentation) (rest : List Presentation) (s : State) : Result :=
  exec (decodeEvent e.kind e.ts) { s with inbox := requeue { p with ev := none } rest }

/-- One presentation (60_exceptions.md R203, R204): reset goes before everything and what is presented with it is not
accepted (log 7); of a request and an event together one is taken and the other stays presented, the order being the
presentation's (log 6). -/
def takePresented (p : Presentation) (rest : List Presentation) (s : State) : Result :=
  match p.rst with
  | some cfg => exec (.reset cfg) { s with inbox := rest }
  | none =>
    match p.ev with
    | none => busTurn p rest s
    | some e =>
      if p.eventFirst || (p.req.isNone && s.serving.isEmpty) then eventTurn e p rest s
      else busTurn p rest s

/-- One step: the operation presented, or the request in service when nothing is presented (20_memory.md R58, R59). -/
def runStep (s : State) : Result :=
  match s.inbox with
  | [] => serveNext s
  | p :: rest => takePresented p rest s

/-- A presentation of nothing. -/
def Presentation.nothing : Presentation := { rst := none, req := none, ev := none, eventFirst := false }

/-- The presentation of one request. -/
def Presentation.ofRequest (r : Request) : Presentation := { Presentation.nothing with req := some r }

/-- The presentation of one event. -/
def Presentation.ofEvent (e : Event) : Presentation := { Presentation.nothing with ev := some e }

/-- The presentation of reset. -/
def Presentation.ofReset (cfg : Cfg) : Presentation := { Presentation.nothing with rst := some cfg }

/-- The bytes of an operation (log 10) as what the environment presents: a request of one byte, an event, or reset.
Bytes that are no operation present nothing. -/
def presentationOf : Format → List Byte → Presentation
  | .req, [a, d] => if d.getLsbD 0 then .ofRequest (.read a 1) else .nothing
  | .req, [a, d, v] => if d.getLsbD 0 then .nothing else .ofRequest (.write a [v])
  | .evt, [k, b0, b1, b2, b3] => .ofEvent { kind := k.setWidth 1, ts := leWord b0 b1 b2 b3 }
  | .rst, [d0, d1, e, br, gr, c0, c1, o0, o1, i2c] => .ofReset (cfgOfBytes d0 d1 e br gr c0 c1 o0 o1 i2c)
  | _, _ => .nothing

/-- The state as the operation of a format is taken: what stays presented, and for a request the response port
emptied. -/
def State.accept (s : State) (f : Format) (rest : List Presentation) : State :=
  match f with
  | .req => { s with inbox := rest }.beginResponse
  | .evt | .rst => { s with inbox := rest }

end Sys2Proof.Machine
end

