-- ==== Sys2Proof/Machine/Step.lean ====
section
/-! DEFINITION. The step, and how one operation of the opcode table is presented to it. -/

namespace Sys2Proof.Machine

/-- One step of the machine: one operation, or one byte of a request (20_memory.md R58, R59). -/
def step (s : State) : Host.Outcome State Fault Refusal := Sys2Proof.Machine.runStep s

/-- The state in which the operation of a table word is presented and nothing else is in service: the very next step
takes it (logs 5, 10). -/
def State.withFetchWord (s : State) (nbits w : Nat) : State :=
  { s with inbox := [presentationOf (formatOfBits nbits) (layOut nbits w)], serving := [] }

end Sys2Proof.Machine
end

