-- ==== Sys2Proof/Safety.lean ====
section
/-! DEFINITION. The terms claims are stated in: the queue as a list (10_state.md R34), the invariants (R33, R42), and
the register map as the table of 30_encoding.md R74, written from that table and not from the meanings, with which the
meanings "must agree"; addresses and bit positions are the names of Machine/Map.lean (00_scope.md R8). -/

namespace Sys2Proof.Machine

/-- `contents(q)`, oldest first (10_state.md R34). -/
def Queue.contents (q : Queue) : List Timestamp :=
  (List.range q.size).map fun i => q.buf[(q.tail.val + i) % Config.capacity]'(Nat.mod_lt _ (by decide))

/-- `full == 1` implies `head == tail` (R33 item 2); the ranges of item 1 are in the types. -/
abbrev Queue.Wf (q : Queue) : Prop := q.full = true → q.head = q.tail

/-- Both queues keep R33 (R42 item 1). -/
abbrev Block.Wf (b : Block) : Prop := b.queueP.Wf ∧ b.queueC.Wf

/-- What every step keeps: the queue invariants (R42 item 1); nothing is left in service when requests are atomic
(20_memory.md R58); what is left in service lies in the map, whose range was checked before the first byte (R59); a
rejected request shows no data and is not in service (60_exceptions.md R192); a response and what is still to be served
never exceed the map (20_memory.md R56). -/
abbrev State.Inv (s : State) : Prop :=
  s.blk.Wf ∧ (s.xactAtomic = true → s.serving = []) ∧ (∀ b ∈ s.serving, b.addr.toNat < Config.mapSize) ∧
    (s.rspErr = Config.errRange → s.rspData = [] ∧ s.serving = []) ∧
    s.rspData.length + s.serving.length ≤ Config.mapSize

/-- A bit of a read byte: `2 ^ n` if the flag is 1. -/
def flagAt (f : Bool) (n : Nat) : Nat := if f then 2 ^ n else 0

/-- Byte `j` of a number, least significant first (20_memory.md R53). -/
def natByte (w j : Nat) : Byte := BitVec.ofNat 8 (w / 256 ^ j % 256)

/-- The read value column of 30_encoding.md R74, address by address; `none` for a byte of a view of an empty queue,
which has no value (41_bus_read.md R116), and outside the map. -/
def Block.mapByte (b : Block) (a : Nat) : Option Byte :=
  let view (l : List Timestamp) (newest : Bool) (j : Nat) : Option Byte :=
    (if newest then l.getLast? else l.head?).map fun w => natByte w.toNat j
  let queueByte (q : Queue) : Byte :=
    BitVec.ofNat 8 (flagAt (q.size == Config.capacity) Map.isFullBit + flagAt (q.size == 0) Map.isEmptyBit)
  if a = Map.buttonStatus then
    some (BitVec.ofNat 8 (flagAt b.isPressed Map.isPressedBit + flagAt b.hasBeenClicked Map.hasBeenClickedBit))
  else if Map.covers Map.buttonDebounceTime Map.halfWidth a then some (natByte b.debounce.toNat (a - Map.buttonDebounceTime))
  else if a = Map.interruptConfig then
    some (BitVec.ofNat 8 (flagAt b.pressedEnable Map.pressedEnableBit +
      flagAt b.clickedEnable Map.clickedEnableBit + flagAt b.status Map.statusBit))
  else if a = Map.pressedQueueStatus then some (queueByte b.queueP)
  else if Map.covers Map.pressedQueueFront Map.viewWidth a then view b.queueP.contents true (a - Map.pressedQueueFront)
  else if Map.covers Map.pressedQueueBack Map.viewWidth a then view b.queueP.contents false (a - Map.pressedQueueBack)
  else if a = Map.clickedQueueStatus then some (queueByte b.queueC)
  else if Map.covers Map.clickedQueueFront Map.viewWidth a then view b.queueC.contents true (a - Map.clickedQueueFront)
  else if Map.covers Map.clickedQueueBack Map.viewWidth a then view b.queueC.contents false (a - Map.clickedQueueBack)
  else if a = Map.ledBrightness then some b.ledBrightness
  else if a = Map.ledPulseGranularity then some b.ledPulseGranularity
  else if Map.covers Map.ledPulseCycleTime Map.halfWidth a then some (natByte b.ledPulseCycleTime.toNat (a - Map.ledPulseCycleTime))
  else if Map.covers Map.ledPulseOffTime Map.halfWidth a then some (natByte b.ledPulseOffTime.toNat (a - Map.ledPulseOffTime))
  else if a = Map.i2cAddress then some b.i2cAddress
  else if a = Map.id then some Config.deviceId
  else if a = Map.firmwareMinor then some Config.fwMinor
  else if a = Map.firmwareMajor then some Config.fwMajor
  else none

/-- Whether bit `n` of a written byte is 1, by its weight (00_scope.md R10). -/
def bitOf (v : Byte) (n : Nat) : Bool := v.toNat / 2 ^ n % 2 == 1

/-- A 16-bit cell with byte `j` replaced (20_memory.md R54). -/
def storeByte (w : Half) (j : Nat) (v : Byte) : Half :=
  if j = 0 then BitVec.ofNat 16 (w.toNat / 256 * 256 + v.toNat)
  else BitVec.ofNat 16 (v.toNat * 256 + w.toNat % 256)

/-- The last column of 30_encoding.md R74: what a byte written at `a` does to the block. -/
def Block.mapWrite (b : Block) (a : Nat) (v : Byte) : Block :=
  if a = Map.buttonStatus then { b with hasBeenClicked := b.hasBeenClicked && bitOf v Map.hasBeenClickedBit }
  else if Map.covers Map.buttonDebounceTime Map.halfWidth a then
    { b with debounce := storeByte b.debounce (a - Map.buttonDebounceTime) v }
  else if a = Map.interruptConfig then
    { b with pressedEnable := bitOf v Map.pressedEnableBit, clickedEnable := bitOf v Map.clickedEnableBit,
             status := b.status && bitOf v Map.statusBit }
  else if a = Map.pressedQueueStatus then if bitOf v Map.popRequestBit then { b with queueP := b.queueP.pop } else b
  else if a = Map.clickedQueueStatus then if bitOf v Map.popRequestBit then { b with queueC := b.queueC.pop } else b
  else if a = Map.ledBrightness then { b with ledBrightness := v }
  else if a = Map.ledPulseGranularity then { b with ledPulseGranularity := v }
  else if Map.covers Map.ledPulseCycleTime Map.halfWidth a then
    { b with ledPulseCycleTime := storeByte b.ledPulseCycleTime (a - Map.ledPulseCycleTime) v }
  else if Map.covers Map.ledPulseOffTime Map.halfWidth a then
    { b with ledPulseOffTime := storeByte b.ledPulseOffTime (a - Map.ledPulseOffTime) v }
  else if a = Map.i2cAddress then { b with i2cAddress := v }
  else b

/-- The bytes of a WRITE applied in ascending address order (42_bus_write.md R140). -/
def Block.mapWrites : Block → Nat → List Byte → Block
  | b, _, [] => b
  | b, a, v :: vs => (b.mapWrite a v).mapWrites (a + 1) vs

/-- `push` on the list of entries (40_queue.md R99). -/
def listPush (l : List Timestamp) (t : Timestamp) : List Timestamp :=
  if l.length < Config.capacity then l ++ [t] else l.tail ++ [t]

/-- What one row does to the pressed queue, as a list (R99, R103). -/
def listStepP (i : Instr) (l : List Timestamp) : List Timestamp :=
  match i with
  | .evPress ts => listPush l ts
  | .wrPressedQueueStatus v => if bitOf v Map.popRequestBit then l.tail else l
  | .reset _ => []
  | _ => l

/-- What one row does to the clicked queue, as a list (R99, R103). -/
def listStepC (i : Instr) (l : List Timestamp) : List Timestamp :=
  match i with
  | .evClick ts => listPush l ts
  | .wrClickedQueueStatus v => if bitOf v Map.popRequestBit then l.tail else l
  | .reset _ => []
  | _ => l

/-- The hidden latch of one kind in the two-latch reading (43_events_interrupt.md R176): set by that kind's event when
its enable is 1, cleared by the acknowledge and by reset. -/
def latchStepP (i : Instr) (enable pend : Bool) : Bool :=
  match i with
  | .evPress _ => pend || enable
  | .wrInterruptConfig v => pend && bitOf v Map.statusBit
  | .reset _ => false
  | _ => pend

/-- As `latchStepP`, for the clicked kind. -/
def latchStepC (i : Instr) (enable pend : Bool) : Bool :=
  match i with
  | .evClick _ => pend || enable
  | .wrInterruptConfig v => pend && bitOf v Map.statusBit
  | .reset _ => false
  | _ => pend

/-- A machine in which exactly this is presented and nothing is in service. -/
def State.presenting (s : State) (p : Presentation) : State := { s with inbox := [p], serving := [] }

end Sys2Proof.Machine
end

