-- ==== Sys2Proof/Certificates/Slice0/Obligations.lean ====
section
/-! DEFINITION. The statements for the provers. `exec` statements give the whole next state, so that everything they do
not name is unchanged (the frame). A docstring says which rule a statement formalises, or whose choice it rests on. -/

open Sys2Proof Sys2Proof.Machine

/-! ### The step, the decoder and the encoder -/

/-- The step runs the operation presented: bytes that decode to `i` make the step `exec i`, after the operation is
taken off the port and, for a request, the response port emptied (the model's form, logs 5 and 10). -/
def Obligations.StepRunsDecodedOperation : Prop :=
  ∀ (s : State) (f : Format) (bytes : List Byte) (rest : List Presentation) (i : Instr),
    s.serving = [] → s.inbox = presentationOf f bytes :: rest → decode f bytes = .ok i →
    step s = exec i (s.accept f rest)

/-- While a request is in service a step serves its next byte (20_memory.md section 4, the weaker setting; the model's
form, log 8): when nothing is presented, and when something is presented that is neither reset nor an event that goes
first. What is presented then stays presented, be it a further request (60_exceptions.md section 3: one at a time) or an
event that goes second (log 6); a presentation of nothing is taken off. -/
def Obligations.StepServesDecodedByte : Prop :=
  ∀ (s : State) (b : ByteAccess) (bs : List ByteAccess), s.serving = b :: bs →
    (s.inbox = [] → step s = exec (decodeKey (keyOf b.rw b.addr) b.wdata) { s with serving := bs }) ∧
    ∀ (p : Presentation) (rest : List Presentation), s.inbox = p :: rest → p.rst = none →
      (p.ev = none ∨ p.eventFirst = false) →
      step s = exec (decodeKey (keyOf b.rw b.addr) b.wdata)
        { s with serving := bs, inbox := if p.req.isNone && p.ev.isNone then rest else p :: rest }

/-- With nothing presented and nothing in service a step changes nothing (the model's choice, log 15, which rests on
70_reset_and_hazards.md section 4: the spec is untimed). -/
def Obligations.StepIdlesWhenNothingIsPresented : Prop :=
  ∀ s : State, s.inbox = [] → s.serving = [] → step s = .next s

/-- Words of the table, written out from 30_encoding.md (R71, R72, R80), decode to their rows (layout: log 10). -/
def Obligations.TableWordsDecodeToTheirRows : Prop :=
  decodeTableWord 16 0x100 = some .rdButtonStatus ∧ decodeTableWord 16 0x115 = some .rdClickedQueueBackB3 ∧
  decodeTableWord 16 0x11D = some .rdId ∧ decodeTableWord 16 0x1FF = some (.rdOor0 0xFF) ∧
  decodeTableWord 16 0x120 = some (.rdOor2 0x20) ∧ decodeTableWord 16 0x003 = some (.wrInterruptConfig 0) ∧
  decodeTableWord 24 0x800004 = some (.wrPressedQueueStatus 0x80) ∧ decodeTableWord 16 0x040 = some (.wrOor1 0x40 0) ∧
  decodeTableWord 16 0x17F = some (.rdOor1 0x7F) ∧ decodeTableWord 16 0x080 = some (.wrOor0 0x80 0) ∧
  decodeTableWord 16 0x03F = some (.wrOor2 0x3F 0) ∧
  decodeTableWord 8 0 = some (.evPress 0) ∧ decodeTableWord 8 1 = some (.evClick 0)

/-- Decode and encode agree, with every operand at every value the encoding admits (layout: log 10). -/
def Obligations.DecodeOfEncodeIsTheInstruction : Prop :=
  ∀ i : Instr, i.wellFormed = true → decode (encode i).1 (encode i).2 = .ok i

/-- The other direction: every key and every written byte decode to a well-formed row whose encoding is that key and
byte (layout: log 10). -/
def Obligations.EncodeOfDecodedRequestIsItsBytes : Prop :=
  ∀ (a : Offset) (v : Byte),
    (decodeKey (keyOf 1#1 a) v).wellFormed = true ∧ (decodeKey (keyOf 0#1 a) v).wellFormed = true ∧
    encode (decodeKey (keyOf 1#1 a) v) = (.req, [a, 0x01#8]) ∧
    encode (decodeKey (keyOf 0#1 a) v) = (.req, [a, 0x00#8, v])

/-- The request decoder is total and its rows disjoint: every one of the 512 keys is selected by exactly one of the 70
rows, which is the row of the instruction it decodes to (30_encoding.md section 5, marked derived there). -/
def Obligations.RequestRowsAreDisjointAndCoverAllKeys : Prop :=
  ∀ key : Key, (requestRows.filter (rowApplies key)) = [(decodeKey key 0).row]

/-! ### The whole machine -/

/-- Every step keeps the invariant `State.Inv`: R33 for both queues, R58, R59's one range check, R192's "no data". -/
def Obligations.StepKeepsTheInvariant : Prop :=
  ∀ s t : State, s.Inv → step s = .next t → t.Inv

/-- The state after reset meets the invariant. -/
def Obligations.ResetMeetsTheInvariant : Prop := State.reset.Inv

/-- R190: from any state, whatever is presented, the machine goes on: no run of any length faults or is refused. (That a
rejected request leaves every field unchanged is `OutOfRangeRequestLeavesNoTrace`.) -/
def Obligations.RunsNeverStop : Prop :=
  ∀ (s : State) (k : Nat), ∃ t : State, Host.Core.run Sys2Proof.core k s = .next t

/-- 41_bus_read.md section 1 (the range check and the atomicity are the spec's decisions D4 and D11): an accepted READ
answers `len` bytes, each the byte of the table of 30_encoding.md section 2 at its address where that table gives a
value, in one step that leaves the block as it is. -/
def Obligations.AtomicReadAnswersTheMap : Prop :=
  ∀ (s : State) (offset : Offset) (len : Nat), s.blk.Wf → s.xactAtomic = true →
    offset.toNat + len ≤ Config.mapSize →
    ∃ t : State, step (s.presenting (.ofRequest (.read offset len))) = .next t ∧
      t.blk = s.blk ∧ t.inbox = [] ∧ t.serving = [] ∧ t.xactAtomic = true ∧ t.rspErr = Config.ok ∧
      t.rspData.length = len ∧
      ∀ k < len, ∀ b : Byte, s.blk.mapByte (offset.toNat + k) = some b → t.rspData[k]? = some b

/-- 42_bus_write.md section 1 (the spec's decisions D4, D11, D28): an accepted WRITE applies each of its bytes, as the
table of 30_encoding.md section 2 says, in ascending order in one step, and answers `OK` without data. -/
def Obligations.AtomicWriteAppliesEveryByte : Prop :=
  ∀ (s : State) (offset : Offset) (wdata : List Byte), s.xactAtomic = true →
    offset.toNat + wdata.length ≤ Config.mapSize →
    step (s.presenting (.ofRequest (.write offset wdata))) =
      .next { s with blk := s.blk.mapWrites offset.toNat wdata, inbox := [], serving := [], rspErr := Config.ok,
                     rspData := [] }

/-- 60_exceptions.md section 1 (the spec's decisions D4, D5): a request with `offset + len > 32` is rejected whole in
either setting of `XACT_ATOMIC`: `ERR_RANGE`, no data, no state change. -/
def Obligations.OutOfRangeRequestLeavesNoTrace : Prop :=
  ∀ (s : State) (r : Request), Config.mapSize < r.offset.toNat + r.len →
    step (s.presenting (.ofRequest r)) =
      .next { s with inbox := [], serving := [], rspErr := Config.errRange, rspData := [] }

/-- 20_memory.md section 4 (the spec's decision D11; log 8): with no event between its bytes, a request served byte by
byte ends in the state the atomic step reaches. -/
def Obligations.ByteGranularServiceEqualsAtomic : Prop :=
  ∀ (s : State) (r : Request), s.xactAtomic = false → r.offset.toNat + r.len ≤ Config.mapSize →
    ∃ t : State, step ({ s with xactAtomic := true }.presenting (.ofRequest r)) = .next t ∧
      Host.Core.run Sys2Proof.core (max 1 r.len) (s.presenting (.ofRequest r)) =
        .next ({ t with xactAtomic := false } : State)

/-- 60_exceptions.md section 3 (the spec's decision D11; logs 6, 8): a request and an event presented together are
serialised, and both orders are runs. In either setting of `XACT_ATOMIC`: the one that goes first is taken and the other
stays presented; an event that goes first is taken also between two bytes of a request, whose remaining bytes stay in
service. -/
def Obligations.BothOrdersOfRequestAndEventAreRuns : Prop :=
  (∀ (s : State) (r : Request) (e : Event), s.xactAtomic = true →
    (∃ t u : State, step (s.presenting (.ofRequest r)) = .next t ∧ step (t.presenting (.ofEvent e)) = .next u ∧
      Host.Core.run Sys2Proof.core 2
        (s.presenting { rst := none, req := some r, ev := some e, eventFirst := false }) = .next u) ∧
    ∃ t u : State, step (s.presenting (.ofEvent e)) = .next t ∧ step (t.presenting (.ofRequest r)) = .next u ∧
      Host.Core.run Sys2Proof.core 2
        (s.presenting { rst := none, req := some r, ev := some e, eventFirst := true }) = .next u) ∧
  (∀ (s : State) (r : Request) (e : Event),
    ∃ t : State, step (s.presenting (.ofRequest r)) = .next t ∧
      step (s.presenting { rst := none, req := some r, ev := some e, eventFirst := false }) =
        .next { t with inbox := [.ofEvent e] }) ∧
  ∀ (s : State) (p : Presentation) (rest : List Presentation) (e : Event), s.inbox = p :: rest → p.rst = none →
    p.ev = some e → p.eventFirst = true →
    ∃ t : State, exec (decodeEvent e.kind e.ts) s = .next t ∧ t.serving = s.serving ∧
      step s = .next { t with inbox := if p.req.isNone then rest else { p with ev := none } :: rest }

/-- 60_exceptions.md section 3 (the spec's decision D23; log 7): reset is taken before everything presented with it,
which is not accepted. -/
def Obligations.ResetHasPriority : Prop :=
  ∀ (s : State) (p : Presentation) (rest : List Presentation) (cfg : Cfg), s.inbox = p :: rest →
    p.rst = some cfg → step s = exec (.reset cfg) { s with inbox := rest }

/-- 20_memory.md section 4, marked derived there: a step that serves only READ bytes leaves the block, and with it
every output port, as it is, in either setting of `XACT_ATOMIC`, accepted or rejected: the step that takes a READ, and
the steps that serve its later bytes, with nothing presented or with a further READ waiting. -/
def Obligations.ReadRequestsLeaveTheBlockUnchanged : Prop :=
  ∀ s t : State, (∀ b ∈ s.serving, b.rw = 1#1) →
    (∀ p, s.inbox.head? = some p → p.rst = none ∧ p.ev = none ∧
      ∀ r, p.req = some r → ∃ (offset : Offset) (len : Nat), r = .read offset len) →
    step s = .next t → t.blk = s.blk

/-- 10_state.md section 9 (the spec's decisions D20, D24): the output ports are functions of the state's cells. -/
def Obligations.OutputPortsMirrorTheCells : Prop :=
  ∀ s : State, s.intPending = (if s.blk.status then 1#1 else 0#1) ∧ s.debounceOut = s.blk.debounce ∧
    s.ledBrightnessOut = s.blk.ledBrightness ∧ s.ledGranularityOut = s.blk.ledPulseGranularity ∧
    s.ledCycleOut = s.blk.ledPulseCycleTime ∧ s.ledOffOut = s.blk.ledPulseOffTime ∧
    s.i2cAddrOut = s.blk.i2cAddress

/-- 20_memory.md section 1: where a byte has a value (a view of an empty queue has none), the byte read at an address
depends on the address and the block alone, not on the request it is read by; and a WRITE of several bytes is one-byte
WRITEs, each at its own address. Stated for atomic requests. -/
def Obligations.LayoutDoesNotDependOnTheRequest : Prop :=
  (∀ (s s' t t' : State) (o o' : Offset) (n n' a : Nat), s.blk.Wf → s.blk = s'.blk → s.xactAtomic = true →
    s'.xactAtomic = true → o.toNat + n ≤ Config.mapSize → o'.toNat + n' ≤ Config.mapSize →
    o.toNat ≤ a → a < o.toNat + n → o'.toNat ≤ a → a < o'.toNat + n' → s.blk.mapByte a ≠ none →
    step (s.presenting (.ofRequest (.read o n))) = .next t →
    step (s'.presenting (.ofRequest (.read o' n'))) = .next t' →
    t.rspData[a - o.toNat]? = t'.rspData[a - o'.toNat]?) ∧
  ∀ (s : State) (o : Offset) (v : Byte) (vs : List Byte), s.xactAtomic = true →
    o.toNat + (vs.length + 1) ≤ Config.mapSize →
    ∃ t u w : State, step (s.presenting (.ofRequest (.write o [v]))) = .next t ∧
      step (t.presenting (.ofRequest (.write (o + 1) vs))) = .next u ∧
      step (s.presenting (.ofRequest (.write o (v :: vs)))) = .next w ∧ w.blk = u.blk

/-- R53: a field of `k` bytes at base `b` that holds `w` has byte `j` of `w` at byte address `b + j`, least significant
first, for each of the seven multi-byte fields; a view holds a value when its queue holds an entry. Read: the byte at
`b + j` is byte `j`. Written, for the three fields that are stored: the byte written at `b + j` becomes byte `j`, and the
other byte stays (a written byte of a view is discarded: `WriteToViewsIsIgnored`). -/
def Obligations.MultiByteFieldsAreLeastSignificantFirst : Prop :=
  (∀ (s : State) (base k w : Nat) (v : Byte), s.blk.Wf →
    (base = 0x01 ∧ k = 2 ∧ w = s.blk.debounce.toNat ∨
     base = 0x05 ∧ k = 4 ∧ (s.blk.queueP.contents.getLast?.map BitVec.toNat) = some w ∨
     base = 0x09 ∧ k = 4 ∧ (s.blk.queueP.contents.head?.map BitVec.toNat) = some w ∨
     base = 0x0E ∧ k = 4 ∧ (s.blk.queueC.contents.getLast?.map BitVec.toNat) = some w ∨
     base = 0x12 ∧ k = 4 ∧ (s.blk.queueC.contents.head?.map BitVec.toNat) = some w ∨
     base = 0x18 ∧ k = 2 ∧ w = s.blk.ledPulseCycleTime.toNat ∨
     base = 0x1A ∧ k = 2 ∧ w = s.blk.ledPulseOffTime.toNat) →
    ∀ j < k, exec (decodeKey (keyOf 1#1 (BitVec.ofNat 8 (base + j))) v) s =
      .next { s with rspData := s.rspData ++ [BitVec.ofNat 8 (w / 256 ^ j)] }) ∧
  ∀ (s : State) (base : Nat) (field : Block → Half) (v : Byte),
    (base = 0x01 ∧ field = Block.debounce ∨ base = 0x18 ∧ field = Block.ledPulseCycleTime ∨
     base = 0x1A ∧ field = Block.ledPulseOffTime) →
    ∀ j < 2, ∃ t : State, exec (decodeKey (keyOf 0#1 (BitVec.ofNat 8 (base + j))) v) s = .next t ∧
      (field t.blk).toNat / 256 ^ j % 256 = v.toNat ∧
      (field t.blk).toNat / 256 ^ (1 - j) % 256 = (field s.blk).toNat / 256 ^ (1 - j) % 256

/-- 92_eei_decisions.md note 1 (an inference the spec marks as its own): the bytes of one WRITE touch different elements,
so two of them at different addresses can be applied in either order. -/
def Obligations.WrittenBytesCommute : Prop :=
  ∀ (s t t' u u' : State) (a a' : Offset) (v v' : Byte), a ≠ a' → a.toNat < Config.mapSize →
    a'.toNat < Config.mapSize →
    exec (decodeKey (keyOf 0#1 a) v) s = .next t → exec (decodeKey (keyOf 0#1 a') v') t = .next u →
    exec (decodeKey (keyOf 0#1 a') v') s = .next t' → exec (decodeKey (keyOf 0#1 a) v) t' = .next u' → u = u'

/-- 42_bus_write.md section 5 (an inference the spec marks as its own): a WRITE of 32 zero bytes clears
`hasBeenClicked` and `status`, zeroes both enables and every configuration cell, and pops nothing. -/
def Obligations.WriteOfZerosOverTheWholeMap : Prop :=
  ∀ s : State, s.xactAtomic = true →
    step (s.presenting (.ofRequest (.write 0x00 (List.replicate 32 0x00#8)))) =
      .next { s with
        blk := { isPressed := s.blk.isPressed, hasBeenClicked := false, debounce := 0, pressedEnable := false,
                 clickedEnable := false, status := false, queueP := s.blk.queueP, queueC := s.blk.queueC,
                 ledBrightness := 0, ledPulseGranularity := 0, ledPulseCycleTime := 0, ledPulseOffTime := 0,
                 i2cAddress := 0 },
        inbox := [], serving := [], rspErr := Config.ok, rspData := [] }

/-- 70_reset_and_hazards.md section 1 (the spec's decisions D14 to D16): the map a host reads right after RESET with any
`CFG`: 5 defined bytes, 8 bytes of empty views, the other status byte, 8 more, and 10 defined bytes. -/
def Obligations.MapRightAfterReset : Prop :=
  ∀ (cfg : Cfg) (s t : State), s.xactAtomic = true → exec (.reset cfg) s = .next t →
    ∃ u : State, step (t.presenting (.ofRequest (.read 0x00 32))) = .next u ∧ u.rspErr = Config.ok ∧
      u.rspData.length = 32 ∧
      u.rspData.take 5 = [0x00, cfg.debounce.setWidth 8, (cfg.debounce >>> 8).setWidth 8,
        BitVec.ofNat 8 ((if cfg.pressedEnable then 1 else 0) + (if cfg.clickedEnable then 2 else 0)), 0x40] ∧
      u.rspData[13]? = some 0x40 ∧
      u.rspData.drop 22 = [cfg.ledBrightness, cfg.ledPulseGranularity,
        cfg.ledPulseCycleTime.setWidth 8, (cfg.ledPulseCycleTime >>> 8).setWidth 8,
        cfg.ledPulseOffTime.setWidth 8, (cfg.ledPulseOffTime >>> 8).setWidth 8, cfg.i2cAddress,
        Config.deviceId, Config.fwMinor, Config.fwMajor]

/-- The free values stay out of the block (92_eei_decisions.md D12): what a row other than RESET does to the block is
decided by the block, not by the response port, what is presented, or how many free values were drawn. -/
def Obligations.BlockDependsOnTheBlockAlone : Prop :=
  ∀ (i : Instr) (s s' t t' : State), (∀ cfg, i ≠ .reset cfg) → s.blk = s'.blk → exec i s = .next t →
    exec i s' = .next t' → t.blk = t'.blk

/-! ### The Event Queues -/

/-- 40_queue.md section 3 (marked derived there): each row acts on the two queues as on the lists of their entries. -/
def Obligations.QueuesRefineLists : Prop :=
  ∀ (i : Instr) (s t : State), s.blk.Wf → exec i s = .next t →
    t.blk.queueP.contents = listStepP i s.blk.queueP.contents ∧
    t.blk.queueC.contents = listStepC i s.blk.queueC.contents

/-- R100: after more than `CAPACITY` pushes a queue holds exactly the `CAPACITY` most recent Timestamps, pops give them
oldest first, and its flags are those of any full queue: nothing records that an entry was discarded. -/
def Obligations.QueueIsASlidingWindow : Prop :=
  ∀ (q : Queue) (ts : List Timestamp), q.Wf → Config.capacity ≤ ts.length →
    (ts.foldl Queue.push q).contents = ts.drop (ts.length - Config.capacity) ∧
    (ts.foldl Queue.push q).isFull = true ∧ (ts.foldl Queue.push q).isEmpty = false ∧
    ∀ k < Config.capacity, (Queue.pop^[k] (ts.foldl Queue.push q)).popped = ts[ts.length - Config.capacity + k]?

/-- R101: a push onto an empty queue and then a pop returns what was pushed and empties the queue; in general `pop`
returns the oldest entry and leaves the others in their order. -/
def Obligations.QueueIsFirstInFirstOut : Prop :=
  (∀ (q : Queue) (t : Timestamp), q.Wf → q.isEmpty = true →
    (q.push t).popped = some t ∧ (q.push t).pop.isEmpty = true) ∧
  (∀ q : Queue, q.Wf → q.popped = q.contents.head? ∧ q.pop.contents = q.contents.tail) ∧
  ∀ (q : Queue) (t : Timestamp), q.Wf →
    (q.push t).contents = (if q.size < Config.capacity then q.contents else q.contents.tail) ++ [t]

/-- R96, R97: the two flags as the rules compute them; they say whether the size is `CAPACITY` or 0, are never both 1, and
are both 0 in between; with `CAPACITY` entries the indices are equal; a queue right after RESET is full from the 15th
push on and empty only before the first. -/
def Obligations.FullAndEmptyTellTheSize : Prop :=
  (∀ q : Queue, q.Wf → q.isFull = q.full ∧ q.isEmpty = (q.full == false && q.head == q.tail) ∧
    (q.isFull = true ↔ q.contents.length = Config.capacity) ∧
    (q.isEmpty = true ↔ q.contents = []) ∧ ¬(q.isFull = true ∧ q.isEmpty = true) ∧
    (q.isFull = false ∧ q.isEmpty = false ↔ 0 < q.contents.length ∧ q.contents.length < Config.capacity) ∧
    (q.contents.length = Config.capacity → q.head = q.tail)) ∧
  ∀ (n : Nat) (ts : List Timestamp),
    ((ts.foldl Queue.push (Queue.fresh n)).isFull = true ↔ Config.capacity ≤ ts.length) ∧
    ((ts.foldl Queue.push (Queue.fresh n)).isEmpty = true ↔ ts = [])

/-- 40_queue.md section 2 (the empty case is the spec's decision D12): on a queue that holds an entry `front` is the last
and `back` the first entry; on an empty one each is the caller's draw, whatever the slots hold. So each byte a host
reads from a view of an empty queue is a byte of a draw of its own (that draws are `Config.anyTimestamp` of the counter
`draws` is the model's form, log 3). -/
def Obligations.FrontIsNewestAndBackIsOldest : Prop :=
  (∀ (q : Queue) (anyTs : Timestamp), q.Wf →
    q.front anyTs = q.contents.getLast?.getD anyTs ∧ q.back anyTs = q.contents.head?.getD anyTs) ∧
  ∀ (s : State) (i : Instr) (j : Nat),
    (s.blk.queueP.isEmpty = true ∧
        (i, j) ∈ [(.rdPressedQueueFrontB0, 0), (.rdPressedQueueFrontB1, 1), (.rdPressedQueueFrontB2, 2),
          (.rdPressedQueueFrontB3, 3), (.rdPressedQueueBackB0, 0), (.rdPressedQueueBackB1, 1),
          (.rdPressedQueueBackB2, 2), (.rdPressedQueueBackB3, 3)] ∨
      s.blk.queueC.isEmpty = true ∧
        (i, j) ∈ [(.rdClickedQueueFrontB0, 0), (.rdClickedQueueFrontB1, 1), (.rdClickedQueueFrontB2, 2),
          (.rdClickedQueueFrontB3, 3), (.rdClickedQueueBackB0, 0), (.rdClickedQueueBackB1, 1),
          (.rdClickedQueueBackB2, 2), (.rdClickedQueueBackB3, 3)]) →
    exec i s = .next { s with
      rspData := s.rspData ++ [(Config.anyTimestamp s.draws).extractLsb' (8 * j) 8], draws := s.draws + 1 }

/-- R102: a queue is emptied by `CAPACITY` `popRequest` writes, and only a `popRequest` write or RESET ever makes it
hold less. -/
def Obligations.QueueIsClearedOnlyByPopsOrReset : Prop :=
  (∀ (s : State) (v : Byte), s.blk.Wf → v.getLsbD 7 = true →
    (∃ t : State, serveAll (List.replicate Config.capacity { rw := 0#1, addr := 0x04, wdata := v }) s = .next t ∧
      t.blk.queueP.isEmpty = true) ∧
    ∃ t : State, serveAll (List.replicate Config.capacity { rw := 0#1, addr := 0x0D, wdata := v }) s = .next t ∧
      t.blk.queueC.isEmpty = true) ∧
  ∀ (i : Instr) (s t : State), s.blk.Wf → exec i s = .next t →
    (t.blk.queueP.size < s.blk.queueP.size →
      (∃ v : Byte, i = .wrPressedQueueStatus v ∧ v.getLsbD 7 = true) ∨ ∃ cfg, i = .reset cfg) ∧
    (t.blk.queueC.size < s.blk.queueC.size →
      (∃ v : Byte, i = .wrClickedQueueStatus v ∧ v.getLsbD 7 = true) ∨ ∃ cfg, i = .reset cfg)

/-- R103: what a row does to one queue does not depend on the other, only EV_PRESS, a write to 0x04 and RESET touch `P`,
only EV_CLICK, a write to 0x0D and RESET touch `C`. -/
def Obligations.QueuesAreIndependent : Prop :=
  ∀ (i : Instr) (s t : State), exec i s = .next t →
    ((∀ ts, i ≠ .evPress ts) → (∀ v, i ≠ .wrPressedQueueStatus v) → (∀ cfg, i ≠ .reset cfg) →
      t.blk.queueP = s.blk.queueP) ∧
    ((∀ ts, i ≠ .evClick ts) → (∀ v, i ≠ .wrClickedQueueStatus v) → (∀ cfg, i ≠ .reset cfg) →
      t.blk.queueC = s.blk.queueC) ∧
    ∀ s' t' : State, exec i s' = .next t' → (∀ cfg, i ≠ .reset cfg) →
      (s.blk.queueP = s'.blk.queueP → t.blk.queueP = t'.blk.queueP) ∧
      (s.blk.queueC = s'.blk.queueC → t.blk.queueC = t'.blk.queueC)

/-! ### The interrupt condition -/

/-- R173: the latch goes from 0 to 1 exactly in EV_PRESS with the pressed enable 1 and in EV_CLICK with the clicked
enable 1. -/
def Obligations.LatchIsSetOnlyByEnabledEvents : Prop :=
  ∀ (i : Instr) (s t : State), s.blk.status = false → exec i s = .next t →
    (t.blk.status = true ↔ (∃ ts, i = .evPress ts) ∧ s.blk.pressedEnable = true ∨
      (∃ ts, i = .evClick ts) ∧ s.blk.clickedEnable = true)

/-- R174: the latch goes from 1 to 0 exactly in a write to 0x03 with bit 2 written 0, and in RESET. -/
def Obligations.LatchIsClearedOnlyByAcknowledge : Prop :=
  ∀ (i : Instr) (s t : State), s.blk.status = true → exec i s = .next t →
    (t.blk.status = false ↔ (∃ v : Byte, i = .wrInterruptConfig v ∧ v.getLsbD 2 = false) ∨ ∃ cfg, i = .reset cfg)

/-- The whole machine (43_events_interrupt.md section 2): in a step, whatever request it serves, the latch rises only if
the step takes an event whose enable is 1 in the state before it. -/
def Obligations.LatchRisesOnlyInAnEventStep : Prop :=
  ∀ s t : State, s.blk.status = false → step s = .next t → t.blk.status = true →
    ∃ (p : Presentation) (rest : List Presentation) (e : Event), s.inbox = p :: rest ∧ p.rst = none ∧ p.ev = some e ∧
      (e.kind = 0#1 ∧ s.blk.pressedEnable = true ∧ step s = exec (.evPress e.ts)
          { s with inbox := requeue { p with ev := none } rest } ∨
       e.kind = 1#1 ∧ s.blk.clickedEnable = true ∧ step s = exec (.evClick e.ts)
          { s with inbox := requeue { p with ev := none } rest })

/-- 43_events_interrupt.md section 2 (the spec's decision D9): the one latch is the "or" of two hidden latches, one for
each kind, that one acknowledge clears together; every row keeps them so. -/
def Obligations.OneLatchIsTheOrOfTwo : Prop :=
  ∀ (i : Instr) (s t : State) (pendP pendC : Bool), s.blk.status = (pendP || pendC) → exec i s = .next t →
    t.blk.status = (latchStepP i s.blk.pressedEnable pendP || latchStepC i s.blk.clickedEnable pendC)

/-- EV_PRESS (43_events_interrupt.md section 1; that `isPressed` is set is the spec's decision D8). -/
def Obligations.PressPushesAndMayRaise : Prop :=
  ∀ (ts : Timestamp) (s : State), decodeEvent 0#1 ts = .evPress ts ∧
    exec (.evPress ts) s = .next { s with
      blk := { s.blk with queueP := s.blk.queueP.push ts, isPressed := true,
                          status := if s.blk.pressedEnable then true else s.blk.status } }

/-- EV_CLICK (43_events_interrupt.md section 1; what it does to `hasBeenClicked` and `isPressed` are the spec's decisions
D7, D8). -/
def Obligations.ClickPushesAndMayRaise : Prop :=
  ∀ (ts : Timestamp) (s : State), decodeEvent 1#1 ts = .evClick ts ∧
    exec (.evClick ts) s = .next { s with
      blk := { s.blk with queueC := s.blk.queueC.push ts, hasBeenClicked := true, isPressed := false,
                          status := if s.blk.clickedEnable then true else s.blk.status } }

/-- RESET (70_reset_and_hazards.md section 1, the spec's decisions D14 to D16; the response port and a request in service:
log 9). The slots of both queues are free values: nothing is said of them. -/
def Obligations.ResetLoadsCfgAndEmptiesQueues : Prop :=
  ∀ (cfg : Cfg) (s : State), ∃ (bufP bufC : Vector Timestamp Config.capacity) (n : Nat),
    exec (.reset cfg) s = .next { s with
      blk := { isPressed := false, hasBeenClicked := false, debounce := cfg.debounce,
               pressedEnable := cfg.pressedEnable, clickedEnable := cfg.clickedEnable, status := false,
               queueP := { buf := bufP, head := 0, tail := 0, full := false },
               queueC := { buf := bufC, head := 0, tail := 0, full := false },
               ledBrightness := cfg.ledBrightness, ledPulseGranularity := cfg.ledPulseGranularity,
               ledPulseCycleTime := cfg.ledPulseCycleTime, ledPulseOffTime := cfg.ledPulseOffTime,
               i2cAddress := cfg.i2cAddress },
      serving := [], rspErr := Config.ok, rspData := [], draws := n }

/-! ### The bytes a host reads -/

/-- R112: bit 0 `isPressed`, bit 1 `hasBeenClicked`, the others 0; the read changes nothing. -/
def Obligations.ReadButtonStatus : Prop :=
  ∀ (s : State) (v : Byte), decodeKey 0x100#9 v = .rdButtonStatus ∧
    ∃ b : Byte, exec .rdButtonStatus s = .next { s with rspData := s.rspData ++ [b] } ∧
      b.getLsbD 0 = s.blk.isPressed ∧ b.getLsbD 1 = s.blk.hasBeenClicked ∧
      (∀ k, 2 ≤ k → b.getLsbD k = false) ∧ b.toNat ≤ 3

/-- R113: the two bytes of `debounce`, and the round trip of a written value. -/
def Obligations.ReadButtonDebounceTime : Prop :=
  ∀ (s : State) (v lo hi : Byte), decodeKey 0x101#9 v = .rdButtonDebounceTimeB0 ∧
    decodeKey 0x102#9 v = .rdButtonDebounceTimeB1 ∧
    exec .rdButtonDebounceTimeB0 s =
      .next { s with rspData := s.rspData ++ [s.blk.debounce.extractLsb' 0 8] } ∧
    exec .rdButtonDebounceTimeB1 s =
      .next { s with rspData := s.rspData ++ [s.blk.debounce.extractLsb' 8 8] } ∧
    ∃ t u r w : State, exec (.wrButtonDebounceTimeB0 lo) s = .next t ∧ exec (.wrButtonDebounceTimeB1 hi) t = .next u ∧
      exec .rdButtonDebounceTimeB0 u = .next r ∧ exec .rdButtonDebounceTimeB1 r = .next w ∧
      w.rspData = s.rspData ++ [lo, hi]

/-- R114: bit 0 `pressedEnable`, bit 1 `clickedEnable`, bit 2 `status`, the others 0; the read does not acknowledge. -/
def Obligations.ReadInterruptConfig : Prop :=
  ∀ (s : State) (v : Byte), decodeKey 0x103#9 v = .rdInterruptConfig ∧
    ∃ b : Byte, exec .rdInterruptConfig s = .next { s with rspData := s.rspData ++ [b] } ∧
      b.getLsbD 0 = s.blk.pressedEnable ∧ b.getLsbD 1 = s.blk.clickedEnable ∧ b.getLsbD 2 = s.blk.status ∧
      ∀ k, 3 ≤ k → b.getLsbD k = false

/-- R115, R119: bit 5 `isFull`, bit 6 `isEmpty`, bit 7 and bits 4:0 zero; only 0x40, 0x00, 0x20 occur. -/
def Obligations.ReadQueueStatus : Prop :=
  ∀ (s : State) (v : Byte),
    (decodeKey 0x104#9 v = .rdPressedQueueStatus ∧
      ∃ b : Byte, exec .rdPressedQueueStatus s = .next { s with rspData := s.rspData ++ [b] } ∧
        b.getLsbD 5 = s.blk.queueP.isFull ∧ b.getLsbD 6 = s.blk.queueP.isEmpty ∧ b.getLsbD 7 = false ∧
        (∀ k, k ≤ 4 → b.getLsbD k = false) ∧ (b = 0x40 ∨ b = 0x00 ∨ b = 0x20)) ∧
    decodeKey 0x10D#9 v = .rdClickedQueueStatus ∧
      ∃ b : Byte, exec .rdClickedQueueStatus s = .next { s with rspData := s.rspData ++ [b] } ∧
        b.getLsbD 5 = s.blk.queueC.isFull ∧ b.getLsbD 6 = s.blk.queueC.isEmpty ∧ b.getLsbD 7 = false ∧
        (∀ k, k ≤ 4 → b.getLsbD k = false) ∧ (b = 0x40 ∨ b = 0x00 ∨ b = 0x20)

/-- R117, R118: byte `j` of the newest and of the oldest pressed Timestamp, the oldest being the one the next pop removes;
the same in both views when `P` holds one entry; a byte of which nothing is said when `P` is empty. -/
def Obligations.ReadPressedViews : Prop :=
  ∀ (s : State) (v : Byte) (front back : Instr) (j : Nat),
    (front, back, j) ∈ [(.rdPressedQueueFrontB0, .rdPressedQueueBackB0, 0),
      (.rdPressedQueueFrontB1, .rdPressedQueueBackB1, 1), (.rdPressedQueueFrontB2, .rdPressedQueueBackB2, 2),
      (.rdPressedQueueFrontB3, .rdPressedQueueBackB3, 3)] →
    decodeKey (BitVec.ofNat 9 (0x105 + j)) v = front ∧ decodeKey (BitVec.ofNat 9 (0x109 + j)) v = back ∧
    (∃ (b c : Byte) (n m : Nat),
      exec front s = .next { s with rspData := s.rspData ++ [b], draws := n } ∧
      exec back s = .next { s with rspData := s.rspData ++ [c], draws := m }) ∧
    (s.blk.queueP.Wf →
      (∀ w, s.blk.queueP.contents.getLast? = some w →
        exec front s = .next { s with rspData := s.rspData ++ [w.extractLsb' (8 * j) 8] }) ∧
      (∀ w, s.blk.queueP.contents.head? = some w →
        exec back s = .next { s with rspData := s.rspData ++ [w.extractLsb' (8 * j) 8] }) ∧
      (∀ w, s.blk.queueP.popped = some w →
        exec back s = .next { s with rspData := s.rspData ++ [w.extractLsb' (8 * j) 8] }) ∧
      (s.blk.queueP.size = 1 → exec front s = exec back s))

/-- R120, R121: byte `j` of the newest and of the oldest clicked Timestamp; a byte of which nothing is said when `C` is
empty. -/
def Obligations.ReadClickedViews : Prop :=
  ∀ (s : State) (v : Byte) (front back : Instr) (j : Nat),
    (front, back, j) ∈ [(.rdClickedQueueFrontB0, .rdClickedQueueBackB0, 0),
      (.rdClickedQueueFrontB1, .rdClickedQueueBackB1, 1), (.rdClickedQueueFrontB2, .rdClickedQueueBackB2, 2),
      (.rdClickedQueueFrontB3, .rdClickedQueueBackB3, 3)] →
    decodeKey (BitVec.ofNat 9 (0x10E + j)) v = front ∧ decodeKey (BitVec.ofNat 9 (0x112 + j)) v = back ∧
    (∃ (b c : Byte) (n m : Nat),
      exec front s = .next { s with rspData := s.rspData ++ [b], draws := n } ∧
      exec back s = .next { s with rspData := s.rspData ++ [c], draws := m }) ∧
    (s.blk.queueC.Wf →
      (∀ w, s.blk.queueC.contents.getLast? = some w →
        exec front s = .next { s with rspData := s.rspData ++ [w.extractLsb' (8 * j) 8] }) ∧
      (∀ w, s.blk.queueC.contents.head? = some w →
        exec back s = .next { s with rspData := s.rspData ++ [w.extractLsb' (8 * j) 8] }))

/-- R122 to R125: the LED cells. -/
def Obligations.ReadLedCells : Prop :=
  ∀ (s : State) (v : Byte),
    (decodeKey 0x116#9 v = .rdLedBrightness ∧ decodeKey 0x117#9 v = .rdLedPulseGranularity ∧
      decodeKey 0x118#9 v = .rdLedPulseCycleTimeB0 ∧ decodeKey 0x119#9 v = .rdLedPulseCycleTimeB1 ∧
      decodeKey 0x11A#9 v = .rdLedPulseOffTimeB0 ∧ decodeKey 0x11B#9 v = .rdLedPulseOffTimeB1) ∧
    exec .rdLedBrightness s = .next { s with rspData := s.rspData ++ [s.blk.ledBrightness] } ∧
    exec .rdLedPulseGranularity s = .next { s with rspData := s.rspData ++ [s.blk.ledPulseGranularity] } ∧
    exec .rdLedPulseCycleTimeB0 s =
      .next { s with rspData := s.rspData ++ [s.blk.ledPulseCycleTime.extractLsb' 0 8] } ∧
    exec .rdLedPulseCycleTimeB1 s =
      .next { s with rspData := s.rspData ++ [s.blk.ledPulseCycleTime.extractLsb' 8 8] } ∧
    exec .rdLedPulseOffTimeB0 s =
      .next { s with rspData := s.rspData ++ [s.blk.ledPulseOffTime.extractLsb' 0 8] } ∧
    exec .rdLedPulseOffTimeB1 s =
      .next { s with rspData := s.rspData ++ [s.blk.ledPulseOffTime.extractLsb' 8 8] }

/-- R126 to R129: the stored bus address and the three identity constants, the same in every state; 0x1F is the last
address a one-byte READ is accepted at. -/
def Obligations.ReadAddressAndIdentity : Prop :=
  ∀ (s : State) (v : Byte),
    (decodeKey 0x11C#9 v = .rdI2cAddress ∧ decodeKey 0x11D#9 v = .rdId ∧ decodeKey 0x11E#9 v = .rdFirmwareMinor ∧
      decodeKey 0x11F#9 v = .rdFirmwareMajor) ∧
    exec .rdI2cAddress s = .next { s with rspData := s.rspData ++ [s.blk.i2cAddress] } ∧
    exec .rdId s = .next { s with rspData := s.rspData ++ [Config.deviceId] } ∧
    exec .rdFirmwareMinor s = .next { s with rspData := s.rspData ++ [Config.fwMinor] } ∧
    exec .rdFirmwareMajor s = .next { s with rspData := s.rspData ++ [Config.fwMajor] } ∧
    ∀ a : Offset, ∃ t : State, step (s.presenting (.ofRequest (.read a 1))) = .next t ∧
      (t.rspErr = Config.ok ↔ a.toNat ≤ 0x1F)

/-- The out-of-range rows of both directions (41_bus_read.md section 5, 42_bus_write.md section 5; the rejection of the
whole request is the spec's decision D4, its row log 11): every address from 0x20 on is one, and each answers
`ERR_RANGE` without data and changes nothing else. -/
def Obligations.OutOfRangeRowsReject : Prop :=
  ∀ (s : State) (a : Offset) (v : Byte),
    (Config.mapSize ≤ a.toNat →
      (decodeKey (keyOf 1#1 a) v = .rdOor0 a ∨ decodeKey (keyOf 1#1 a) v = .rdOor1 a ∨
        decodeKey (keyOf 1#1 a) v = .rdOor2 a) ∧
      (decodeKey (keyOf 0#1 a) v = .wrOor0 a v ∨ decodeKey (keyOf 0#1 a) v = .wrOor1 a v ∨
        decodeKey (keyOf 0#1 a) v = .wrOor2 a v)) ∧
    ∀ i ∈ [Instr.rdOor0 a, .rdOor1 a, .rdOor2 a, .wrOor0 a v, .wrOor1 a v, .wrOor2 a v],
      exec i s = .next { s with rspErr := Config.errRange, rspData := [] }

/-! ### What a written byte does -/

/-- A write to 0x00 (42_bus_write.md section 2; that a written 0 clears `hasBeenClicked` and a written 1 keeps it is the
spec's decision D7). -/
def Obligations.WriteButtonStatus : Prop :=
  ∀ (s : State) (v : Byte), decodeKey 0x000#9 v = .wrButtonStatus v ∧
    exec (.wrButtonStatus v) s =
      .next { s with blk := { s.blk with hasBeenClicked := if v.getLsbD 1 then s.blk.hasBeenClicked else false } }

/-- R143: each byte of `debounce` is written alone, every value legal; the other byte and everything else stay. (When the
port shows one byte written before the other: `DebounceTimeIsMixedOnlyBetweenBytes`.) -/
def Obligations.WriteButtonDebounceTime : Prop :=
  ∀ (s : State) (v : Byte), decodeKey 0x001#9 v = .wrButtonDebounceTimeB0 v ∧
    decodeKey 0x002#9 v = .wrButtonDebounceTimeB1 v ∧
    exec (.wrButtonDebounceTimeB0 v) s =
      .next { s with blk := { s.blk with debounce := s.blk.debounce.extractLsb' 8 8 ++ v } } ∧
    exec (.wrButtonDebounceTimeB1 v) s =
      .next { s with blk := { s.blk with debounce := v ++ s.blk.debounce.extractLsb' 0 8 } }

/-- A write to 0x03 (42_bus_write.md section 2; that a written 0 acknowledges and a written 1 keeps `status` is the spec's
decision D6). Neither queue changes. -/
def Obligations.WriteInterruptConfig : Prop :=
  ∀ (s : State) (v : Byte), decodeKey 0x003#9 v = .wrInterruptConfig v ∧
    exec (.wrInterruptConfig v) s =
      .next { s with blk := { s.blk with pressedEnable := v.getLsbD 0, clickedEnable := v.getLsbD 1,
                                         status := if v.getLsbD 2 then s.blk.status else false } }

/-- A write to 0x04 or 0x0D (42_bus_write.md sections 2 and 3; that the pop happens inside the write is the spec's
decision D10): a 1 in bit 7 pops exactly one entry of that queue, and nothing else changes; the byte read next has bit 7
zero. -/
def Obligations.WriteQueueStatusPopsOne : Prop :=
  ∀ (s : State) (v : Byte),
    (decodeKey 0x004#9 v = .wrPressedQueueStatus v ∧
      exec (.wrPressedQueueStatus v) s =
        .next { s with blk := { s.blk with queueP := if v.getLsbD 7 then s.blk.queueP.pop else s.blk.queueP } } ∧
      (s.blk.queueP.Wf → v.getLsbD 7 = true → ∃ t u : State, exec (.wrPressedQueueStatus v) s = .next t ∧
        t.blk.queueP.size = s.blk.queueP.size - 1 ∧ exec .rdPressedQueueStatus t = .next u ∧
        ∃ b : Byte, u.rspData = s.rspData ++ [b] ∧ b.getLsbD 7 = false)) ∧
    decodeKey 0x00D#9 v = .wrClickedQueueStatus v ∧
      exec (.wrClickedQueueStatus v) s =
        .next { s with blk := { s.blk with queueC := if v.getLsbD 7 then s.blk.queueC.pop else s.blk.queueC } } ∧
      (s.blk.queueC.Wf → v.getLsbD 7 = true → ∃ t u : State, exec (.wrClickedQueueStatus v) s = .next t ∧
        t.blk.queueC.size = s.blk.queueC.size - 1 ∧ exec .rdClickedQueueStatus t = .next u ∧
        ∃ b : Byte, u.rspData = s.rspData ++ [b] ∧ b.getLsbD 7 = false)

/-- R146, R147, R149, R150: a write to a byte of a view changes nothing. -/
def Obligations.WriteToViewsIsIgnored : Prop :=
  ∀ (s : State) (v : Byte) (a : Nat) (i : Instr),
    (a, i) ∈ [(0x05, .wrPressedQueueFrontB0 v), (0x06, .wrPressedQueueFrontB1 v), (0x07, .wrPressedQueueFrontB2 v),
      (0x08, .wrPressedQueueFrontB3 v), (0x09, .wrPressedQueueBackB0 v), (0x0A, .wrPressedQueueBackB1 v),
      (0x0B, .wrPressedQueueBackB2 v), (0x0C, .wrPressedQueueBackB3 v), (0x0E, .wrClickedQueueFrontB0 v),
      (0x0F, .wrClickedQueueFrontB1 v), (0x10, .wrClickedQueueFrontB2 v), (0x11, .wrClickedQueueFrontB3 v),
      (0x12, .wrClickedQueueBackB0 v), (0x13, .wrClickedQueueBackB1 v), (0x14, .wrClickedQueueBackB2 v),
      (0x15, .wrClickedQueueBackB3 v)] →
    decodeKey (BitVec.ofNat 9 a) v = i ∧ exec i s = .next s

/-- R156 to R158: a write to an identity byte changes nothing, and the byte read afterwards is the constant. -/
def Obligations.WriteToIdentityIsIgnored : Prop :=
  ∀ (s : State) (v : Byte),
    (decodeKey 0x01D#9 v = .wrId v ∧ decodeKey 0x01E#9 v = .wrFirmwareMinor v ∧
      decodeKey 0x01F#9 v = .wrFirmwareMajor v) ∧
    exec (.wrId v) s = .next s ∧ exec (.wrFirmwareMinor v) s = .next s ∧ exec (.wrFirmwareMajor v) s = .next s ∧
    exec .rdId s = .next { s with rspData := s.rspData ++ [Config.deviceId] }

/-- R151 to R154: the LED cells are plain storage; `led_brightness_out` follows at once; one byte of a 16-bit cell is
written alone. -/
def Obligations.WriteLedCells : Prop :=
  ∀ (s : State) (v : Byte),
    (decodeKey 0x016#9 v = .wrLedBrightness v ∧ decodeKey 0x017#9 v = .wrLedPulseGranularity v ∧
      decodeKey 0x018#9 v = .wrLedPulseCycleTimeB0 v ∧ decodeKey 0x019#9 v = .wrLedPulseCycleTimeB1 v ∧
      decodeKey 0x01A#9 v = .wrLedPulseOffTimeB0 v ∧ decodeKey 0x01B#9 v = .wrLedPulseOffTimeB1 v) ∧
    (∃ t : State, exec (.wrLedBrightness v) s = .next t ∧ t = { s with blk := { s.blk with ledBrightness := v } } ∧
      t.ledBrightnessOut = v) ∧
    exec (.wrLedPulseGranularity v) s = .next { s with blk := { s.blk with ledPulseGranularity := v } } ∧
    exec (.wrLedPulseCycleTimeB0 v) s =
      .next { s with blk := { s.blk with ledPulseCycleTime := s.blk.ledPulseCycleTime.extractLsb' 8 8 ++ v } } ∧
    exec (.wrLedPulseCycleTimeB1 v) s =
      .next { s with blk := { s.blk with ledPulseCycleTime := v ++ s.blk.ledPulseCycleTime.extractLsb' 0 8 } } ∧
    exec (.wrLedPulseOffTimeB0 v) s =
      .next { s with blk := { s.blk with ledPulseOffTime := s.blk.ledPulseOffTime.extractLsb' 8 8 ++ v } } ∧
    exec (.wrLedPulseOffTimeB1 v) s =
      .next { s with blk := { s.blk with ledPulseOffTime := v ++ s.blk.ledPulseOffTime.extractLsb' 0 8 } }

/-- A write to 0x1C (42_bus_write.md section 4; that any byte is stored unchecked is the spec's decision D18). -/
def Obligations.WriteI2cAddress : Prop :=
  ∀ (s : State) (v : Byte), decodeKey 0x01C#9 v = .wrI2cAddress v ∧
    exec (.wrI2cAddress v) s = .next { s with blk := { s.blk with i2cAddress := v } } ∧
    ∃ t : State, exec (.wrI2cAddress v) s = .next t ∧ t.i2cAddrOut = v

/-- R81: the reserved bits of 0x00, 0x03, 0x04 and 0x0D read 0, and bytes that differ only in them are written to the
same effect. -/
def Obligations.ReservedBitsReadZeroAndAreDiscarded : Prop :=
  ∀ (s : State) (v w : Byte),
    (∃ b c d e : Byte, exec .rdButtonStatus s = .next { s with rspData := s.rspData ++ [b] } ∧
      exec .rdInterruptConfig s = .next { s with rspData := s.rspData ++ [c] } ∧
      exec .rdPressedQueueStatus s = .next { s with rspData := s.rspData ++ [d] } ∧
      exec .rdClickedQueueStatus s = .next { s with rspData := s.rspData ++ [e] } ∧
      b &&& 0xFC = 0 ∧ c &&& 0xF8 = 0 ∧ d &&& 0x1F = 0 ∧ e &&& 0x1F = 0) ∧
    (v &&& 0x03 = w &&& 0x03 → exec (.wrButtonStatus v) s = exec (.wrButtonStatus w) s) ∧
    (v &&& 0x07 = w &&& 0x07 → exec (.wrInterruptConfig v) s = exec (.wrInterruptConfig w) s) ∧
    (v &&& 0xE0 = w &&& 0xE0 → exec (.wrPressedQueueStatus v) s = exec (.wrPressedQueueStatus w) s ∧
      exec (.wrClickedQueueStatus v) s = exec (.wrClickedQueueStatus w) s)

/-- R194: a write to a read-only byte is answered `OK` and changes nothing of the block, and a write whose byte differs
only in read-only or reserved bits has the same effect. -/
def Obligations.ReadOnlyWritesAreNoException : Prop :=
  (∀ (s : State) (a : Offset) (v : Byte),
    (5 ≤ a.toNat ∧ a.toNat ≤ 12 ∨ 14 ≤ a.toNat ∧ a.toNat ≤ 21 ∨ 29 ≤ a.toNat ∧ a.toNat ≤ 31) →
    ∃ t : State, step (s.presenting (.ofRequest (.write a [v]))) = .next t ∧ t.blk = s.blk ∧ t.rspErr = Config.ok) ∧
  ∀ (s : State) (v w : Byte),
    (v.getLsbD 1 = w.getLsbD 1 → exec (.wrButtonStatus v) s = exec (.wrButtonStatus w) s) ∧
    (v.getLsbD 0 = w.getLsbD 0 → v.getLsbD 1 = w.getLsbD 1 → v.getLsbD 2 = w.getLsbD 2 →
      exec (.wrInterruptConfig v) s = exec (.wrInterruptConfig w) s) ∧
    (v.getLsbD 7 = w.getLsbD 7 → exec (.wrPressedQueueStatus v) s = exec (.wrPressedQueueStatus w) s ∧
      exec (.wrClickedQueueStatus v) s = exec (.wrClickedQueueStatus w) s) ∧
    ∃ t u x y : State, step (s.presenting (.ofRequest (.write 0x00 [v]))) = .next t ∧ t.rspErr = Config.ok ∧
      step (s.presenting (.ofRequest (.write 0x03 [v]))) = .next u ∧ u.rspErr = Config.ok ∧
      step (s.presenting (.ofRequest (.write 0x04 [v]))) = .next x ∧ x.rspErr = Config.ok ∧
      step (s.presenting (.ofRequest (.write 0x0D [v]))) = .next y ∧ y.rspErr = Config.ok

/-- R193: a `popRequest` write on an empty queue is answered `OK`, changes nothing and reports nothing. -/
def Obligations.PopOfEmptyQueueIsNoException : Prop :=
  ∀ (s : State) (v : Byte), v.getLsbD 7 = true →
    (s.blk.queueP.isEmpty = true → step (s.presenting (.ofRequest (.write 0x04 [v]))) =
      .next { s with inbox := [], serving := [], rspErr := Config.ok, rspData := [] }) ∧
    (s.blk.queueC.isEmpty = true → step (s.presenting (.ofRequest (.write 0x0D [v]))) =
      .next { s with inbox := [], serving := [], rspErr := Config.ok, rspData := [] })

/-- R195: a read of a byte of a view of an empty queue is answered `OK` with one byte, of which nothing is said; the
indication is `isEmpty` in the queue's status byte. -/
def Obligations.ReadOfEmptyViewIsNoException : Prop :=
  ∀ (s : State) (a : Offset),
    (5 ≤ a.toNat ∧ a.toNat ≤ 12 ∧ s.blk.queueP.isEmpty = true →
      (∃ (b : Byte) (n : Nat), step (s.presenting (.ofRequest (.read a 1))) =
        .next { s with inbox := [], serving := [], rspErr := Config.ok, rspData := [b], draws := n }) ∧
      ∃ c : Byte, exec .rdPressedQueueStatus s = .next { s with rspData := s.rspData ++ [c] } ∧ c.getLsbD 6 = true) ∧
    (14 ≤ a.toNat ∧ a.toNat ≤ 21 ∧ s.blk.queueC.isEmpty = true →
      (∃ (b : Byte) (n : Nat), step (s.presenting (.ofRequest (.read a 1))) =
        .next { s with inbox := [], serving := [], rspErr := Config.ok, rspData := [b], draws := n }) ∧
      ∃ c : Byte, exec .rdClickedQueueStatus s = .next { s with rspData := s.rspData ++ [c] } ∧ c.getLsbD 6 = true)

/-- 42_bus_write.md section 2 (the spec's decisions D11, D28; that the first byte is served in the step that takes the
request: log 8; ascending order: log 14): a WRITE of both bytes of `debounce` shows on `debounce_out` at once when
requests are atomic, and one byte after the other when they are not. -/
def Obligations.DebounceTimeIsMixedOnlyBetweenBytes : Prop :=
  ∀ (s : State) (lo hi : Byte),
    (s.xactAtomic = true → ∃ t : State, step (s.presenting (.ofRequest (.write 0x01 [lo, hi]))) = .next t ∧
      t.debounceOut = hi ++ lo) ∧
    (s.xactAtomic = false → ∃ t u : State, step (s.presenting (.ofRequest (.write 0x01 [lo, hi]))) = .next t ∧
      t.debounceOut = s.blk.debounce.extractLsb' 8 8 ++ lo ∧ step t = .next u ∧ u.debounceOut = hi ++ lo)
end

