-- ==== Sys2Proof/Laws/State.lean ====
section
/-! SUPPORT. One lemma for each field and each named update of the state, of the block and of a queue. -/

namespace Sys2Proof.Machine

@[simp] theorem State.setBlk_blk (s : State) (b : Block) : (s.setBlk b).blk = b := rfl
@[simp] theorem State.setBlk_inbox (s : State) (b : Block) : (s.setBlk b).inbox = s.inbox := rfl
@[simp] theorem State.setBlk_serving (s : State) (b : Block) : (s.setBlk b).serving = s.serving := rfl
@[simp] theorem State.setBlk_rspErr (s : State) (b : Block) : (s.setBlk b).rspErr = s.rspErr := rfl
@[simp] theorem State.setBlk_rspData (s : State) (b : Block) : (s.setBlk b).rspData = s.rspData := rfl
@[simp] theorem State.setBlk_draws (s : State) (b : Block) : (s.setBlk b).draws = s.draws := rfl
@[simp] theorem State.setBlk_xactAtomic (s : State) (b : Block) : (s.setBlk b).xactAtomic = s.xactAtomic := rfl

@[simp] theorem State.respond_blk (s : State) (b : Byte) : (s.respond b).blk = s.blk := rfl
@[simp] theorem State.respond_inbox (s : State) (b : Byte) : (s.respond b).inbox = s.inbox := rfl
@[simp] theorem State.respond_serving (s : State) (b : Byte) : (s.respond b).serving = s.serving := rfl
@[simp] theorem State.respond_rspErr (s : State) (b : Byte) : (s.respond b).rspErr = s.rspErr := rfl
@[simp] theorem State.respond_rspData (s : State) (b : Byte) : (s.respond b).rspData = s.rspData ++ [b] := rfl
@[simp] theorem State.respond_draws (s : State) (b : Byte) : (s.respond b).draws = s.draws := rfl
@[simp] theorem State.respond_xactAtomic (s : State) (b : Byte) : (s.respond b).xactAtomic = s.xactAtomic := rfl

@[simp] theorem State.beginResponse_blk (s : State) : (s.beginResponse).blk = s.blk := rfl
@[simp] theorem State.beginResponse_inbox (s : State) : (s.beginResponse).inbox = s.inbox := rfl
@[simp] theorem State.beginResponse_serving (s : State) : (s.beginResponse).serving = s.serving := rfl
@[simp] theorem State.beginResponse_rspErr (s : State) : (s.beginResponse).rspErr = Config.ok := rfl
@[simp] theorem State.beginResponse_rspData (s : State) : (s.beginResponse).rspData = [] := rfl
@[simp] theorem State.beginResponse_draws (s : State) : (s.beginResponse).draws = s.draws := rfl
@[simp] theorem State.beginResponse_xactAtomic (s : State) : (s.beginResponse).xactAtomic = s.xactAtomic := rfl

@[simp] theorem State.rejectRange_blk (s : State) : (s.rejectRange).blk = s.blk := rfl
@[simp] theorem State.rejectRange_inbox (s : State) : (s.rejectRange).inbox = s.inbox := rfl
@[simp] theorem State.rejectRange_serving (s : State) : (s.rejectRange).serving = s.serving := rfl
@[simp] theorem State.rejectRange_rspErr (s : State) : (s.rejectRange).rspErr = Config.errRange := rfl
@[simp] theorem State.rejectRange_rspData (s : State) : (s.rejectRange).rspData = [] := rfl
@[simp] theorem State.rejectRange_draws (s : State) : (s.rejectRange).draws = s.draws := rfl
@[simp] theorem State.rejectRange_xactAtomic (s : State) : (s.rejectRange).xactAtomic = s.xactAtomic := rfl

@[simp] theorem State.drawn_blk (s : State) (n : Nat) : (s.drawn n).blk = s.blk := rfl
@[simp] theorem State.drawn_inbox (s : State) (n : Nat) : (s.drawn n).inbox = s.inbox := rfl
@[simp] theorem State.drawn_serving (s : State) (n : Nat) : (s.drawn n).serving = s.serving := rfl
@[simp] theorem State.drawn_rspErr (s : State) (n : Nat) : (s.drawn n).rspErr = s.rspErr := rfl
@[simp] theorem State.drawn_rspData (s : State) (n : Nat) : (s.drawn n).rspData = s.rspData := rfl
@[simp] theorem State.drawn_draws (s : State) (n : Nat) : (s.drawn n).draws = s.draws + n := rfl
@[simp] theorem State.drawn_xactAtomic (s : State) (n : Nat) : (s.drawn n).xactAtomic = s.xactAtomic := rfl

@[simp] theorem State.dropService_blk (s : State) : (s.dropService).blk = s.blk := rfl
@[simp] theorem State.dropService_inbox (s : State) : (s.dropService).inbox = s.inbox := rfl
@[simp] theorem State.dropService_serving (s : State) : (s.dropService).serving = [] := rfl
@[simp] theorem State.dropService_rspErr (s : State) : (s.dropService).rspErr = s.rspErr := rfl
@[simp] theorem State.dropService_rspData (s : State) : (s.dropService).rspData = s.rspData := rfl
@[simp] theorem State.dropService_draws (s : State) : (s.dropService).draws = s.draws := rfl
@[simp] theorem State.dropService_xactAtomic (s : State) : (s.dropService).xactAtomic = s.xactAtomic := rfl

@[simp] theorem State.respondView_blk (s : State) (q : Queue) (peek : Queue → Timestamp → Timestamp) (j : Nat) : (s.respondView q peek j).blk = s.blk := rfl
@[simp] theorem State.respondView_inbox (s : State) (q : Queue) (peek : Queue → Timestamp → Timestamp) (j : Nat) : (s.respondView q peek j).inbox = s.inbox := rfl
@[simp] theorem State.respondView_serving (s : State) (q : Queue) (peek : Queue → Timestamp → Timestamp) (j : Nat) : (s.respondView q peek j).serving = s.serving := rfl
@[simp] theorem State.respondView_rspErr (s : State) (q : Queue) (peek : Queue → Timestamp → Timestamp) (j : Nat) : (s.respondView q peek j).rspErr = s.rspErr := rfl
@[simp] theorem State.respondView_rspData (s : State) (q : Queue) (peek : Queue → Timestamp → Timestamp) (j : Nat) : (s.respondView q peek j).rspData = s.rspData ++ [leByte (peek q s.nextAny) j] := rfl
@[simp] theorem State.respondView_draws (s : State) (q : Queue) (peek : Queue → Timestamp → Timestamp) (j : Nat) : (s.respondView q peek j).draws = s.draws + (if q.isEmpty then 1 else 0) := rfl
@[simp] theorem State.respondView_xactAtomic (s : State) (q : Queue) (peek : Queue → Timestamp → Timestamp) (j : Nat) : (s.respondView q peek j).xactAtomic = s.xactAtomic := rfl

@[simp] theorem State.setBlk_blk_self (s : State) : s.setBlk s.blk = s := rfl

@[simp] theorem State.withFetchWord_serving (s : State) (n w : Nat) : (s.withFetchWord n w).serving = [] := rfl
@[simp] theorem State.withFetchWord_blk (s : State) (n w : Nat) : (s.withFetchWord n w).blk = s.blk := rfl
@[simp] theorem State.withFetchWord_xactAtomic (s : State) (n w : Nat) :
    (s.withFetchWord n w).xactAtomic = s.xactAtomic := rfl

@[simp] theorem State.accept_req (s : State) (rest : List Presentation) :
    s.accept .req rest = { s with inbox := rest, rspErr := Config.ok, rspData := [] } := rfl
@[simp] theorem State.accept_evt (s : State) (rest : List Presentation) :
    s.accept .evt rest = { s with inbox := rest } := rfl
@[simp] theorem State.accept_rst (s : State) (rest : List Presentation) :
    s.accept .rst rest = { s with inbox := rest } := rfl

@[simp] theorem Block.raiseInterrupt_isPressed (b : Block) (enable : Bool) : (b.raiseInterrupt enable).isPressed = b.isPressed := rfl
@[simp] theorem Block.raiseInterrupt_hasBeenClicked (b : Block) (enable : Bool) : (b.raiseInterrupt enable).hasBeenClicked = b.hasBeenClicked := rfl
@[simp] theorem Block.raiseInterrupt_debounce (b : Block) (enable : Bool) : (b.raiseInterrupt enable).debounce = b.debounce := rfl
@[simp] theorem Block.raiseInterrupt_pressedEnable (b : Block) (enable : Bool) : (b.raiseInterrupt enable).pressedEnable = b.pressedEnable := rfl
@[simp] theorem Block.raiseInterrupt_clickedEnable (b : Block) (enable : Bool) : (b.raiseInterrupt enable).clickedEnable = b.clickedEnable := rfl
@[simp] theorem Block.raiseInterrupt_status (b : Block) (enable : Bool) : (b.raiseInterrupt enable).status = (b.status || enable) := rfl
@[simp] theorem Block.raiseInterrupt_queueP (b : Block) (enable : Bool) : (b.raiseInterrupt enable).queueP = b.queueP := rfl
@[simp] theorem Block.raiseInterrupt_queueC (b : Block) (enable : Bool) : (b.raiseInterrupt enable).queueC = b.queueC := rfl
@[simp] theorem Block.raiseInterrupt_ledBrightness (b : Block) (enable : Bool) : (b.raiseInterrupt enable).ledBrightness = b.ledBrightness := rfl
@[simp] theorem Block.raiseInterrupt_ledPulseGranularity (b : Block) (enable : Bool) : (b.raiseInterrupt enable).ledPulseGranularity = b.ledPulseGranularity := rfl
@[simp] theorem Block.raiseInterrupt_ledPulseCycleTime (b : Block) (enable : Bool) : (b.raiseInterrupt enable).ledPulseCycleTime = b.ledPulseCycleTime := rfl
@[simp] theorem Block.raiseInterrupt_ledPulseOffTime (b : Block) (enable : Bool) : (b.raiseInterrupt enable).ledPulseOffTime = b.ledPulseOffTime := rfl
@[simp] theorem Block.raiseInterrupt_i2cAddress (b : Block) (enable : Bool) : (b.raiseInterrupt enable).i2cAddress = b.i2cAddress := rfl

@[simp] theorem Block.acknowledge_isPressed (b : Block) (written : Bool) : (b.acknowledge written).isPressed = b.isPressed := rfl
@[simp] theorem Block.acknowledge_hasBeenClicked (b : Block) (written : Bool) : (b.acknowledge written).hasBeenClicked = b.hasBeenClicked := rfl
@[simp] theorem Block.acknowledge_debounce (b : Block) (written : Bool) : (b.acknowledge written).debounce = b.debounce := rfl
@[simp] theorem Block.acknowledge_pressedEnable (b : Block) (written : Bool) : (b.acknowledge written).pressedEnable = b.pressedEnable := rfl
@[simp] theorem Block.acknowledge_clickedEnable (b : Block) (written : Bool) : (b.acknowledge written).clickedEnable = b.clickedEnable := rfl
@[simp] theorem Block.acknowledge_status (b : Block) (written : Bool) : (b.acknowledge written).status = (b.status && written) := rfl
@[simp] theorem Block.acknowledge_queueP (b : Block) (written : Bool) : (b.acknowledge written).queueP = b.queueP := rfl
@[simp] theorem Block.acknowledge_queueC (b : Block) (written : Bool) : (b.acknowledge written).queueC = b.queueC := rfl
@[simp] theorem Block.acknowledge_ledBrightness (b : Block) (written : Bool) : (b.acknowledge written).ledBrightness = b.ledBrightness := rfl
@[simp] theorem Block.acknowledge_ledPulseGranularity (b : Block) (written : Bool) : (b.acknowledge written).ledPulseGranularity = b.ledPulseGranularity := rfl
@[simp] theorem Block.acknowledge_ledPulseCycleTime (b : Block) (written : Bool) : (b.acknowledge written).ledPulseCycleTime = b.ledPulseCycleTime := rfl
@[simp] theorem Block.acknowledge_ledPulseOffTime (b : Block) (written : Bool) : (b.acknowledge written).ledPulseOffTime = b.ledPulseOffTime := rfl
@[simp] theorem Block.acknowledge_i2cAddress (b : Block) (written : Bool) : (b.acknowledge written).i2cAddress = b.i2cAddress := rfl

@[simp] theorem Block.ofCfg_isPressed (cfg : Cfg) (p c : Queue) : (Block.ofCfg cfg p c).isPressed = false := rfl
@[simp] theorem Block.ofCfg_hasBeenClicked (cfg : Cfg) (p c : Queue) : (Block.ofCfg cfg p c).hasBeenClicked = false := rfl
@[simp] theorem Block.ofCfg_debounce (cfg : Cfg) (p c : Queue) : (Block.ofCfg cfg p c).debounce = cfg.debounce := rfl
@[simp] theorem Block.ofCfg_pressedEnable (cfg : Cfg) (p c : Queue) : (Block.ofCfg cfg p c).pressedEnable = cfg.pressedEnable := rfl
@[simp] theorem Block.ofCfg_clickedEnable (cfg : Cfg) (p c : Queue) : (Block.ofCfg cfg p c).clickedEnable = cfg.clickedEnable := rfl
@[simp] theorem Block.ofCfg_status (cfg : Cfg) (p c : Queue) : (Block.ofCfg cfg p c).status = false := rfl
@[simp] theorem Block.ofCfg_queueP (cfg : Cfg) (p c : Queue) : (Block.ofCfg cfg p c).queueP = p := rfl
@[simp] theorem Block.ofCfg_queueC (cfg : Cfg) (p c : Queue) : (Block.ofCfg cfg p c).queueC = c := rfl
@[simp] theorem Block.ofCfg_ledBrightness (cfg : Cfg) (p c : Queue) : (Block.ofCfg cfg p c).ledBrightness = cfg.ledBrightness := rfl
@[simp] theorem Block.ofCfg_ledPulseGranularity (cfg : Cfg) (p c : Queue) : (Block.ofCfg cfg p c).ledPulseGranularity = cfg.ledPulseGranularity := rfl
@[simp] theorem Block.ofCfg_ledPulseCycleTime (cfg : Cfg) (p c : Queue) : (Block.ofCfg cfg p c).ledPulseCycleTime = cfg.ledPulseCycleTime := rfl
@[simp] theorem Block.ofCfg_ledPulseOffTime (cfg : Cfg) (p c : Queue) : (Block.ofCfg cfg p c).ledPulseOffTime = cfg.ledPulseOffTime := rfl
@[simp] theorem Block.ofCfg_i2cAddress (cfg : Cfg) (p c : Queue) : (Block.ofCfg cfg p c).i2cAddress = cfg.i2cAddress := rfl

/-- The block of `State.reset` is RESET with `CFG0`, its slots at the values log 2 names. -/
theorem Block.reset_eq_ofCfg : Block.reset = Block.ofCfg cfg0 Queue.empty Queue.empty := rfl

end Sys2Proof.Machine
end

