-- ==== Sys2Proof/Laws/Bus.lean ====
section
/-! SUPPORT. What one row, the service of a request, and one presentation can do. -/

namespace Sys2Proof.Machine

/-- Every row answers a next state: nothing in this block faults (60_exceptions.md R190). -/
theorem exec_total (i : Instr) (s : State) : ∃ t, exec i s = .next t := by
  cases i <;> exact ⟨_, rfl⟩

/-- A row never touches what is presented nor the parameter, and only RESET drops what is in service. -/
theorem exec_keeps_ports {i : Instr} {s t : State} (h : exec i s = .next t) :
    t.inbox = s.inbox ∧ t.xactAtomic = s.xactAtomic ∧
      (t.serving = s.serving ∨ (∃ cfg, i = .reset cfg) ∧ t.serving = []) := by
  cases i <;> injection h with h <;> subst h <;>
    first
      | exact ⟨rfl, rfl, .inl rfl⟩
      | exact ⟨rfl, rfl, .inr ⟨⟨_, rfl⟩, rfl⟩⟩

/-- No row reads what is presented: with another inbox it does the same. -/
theorem exec_with_inbox {i : Instr} {s t : State} (h : exec i s = .next t) (x : List Presentation) :
    exec i { s with inbox := x } = .next { t with inbox := x } := by
  cases i <;> injection h with h <;> subst h <;> rfl

/-- An event leaves the request in service as it is (20_memory.md R59). -/
theorem decodeEvent_keeps_serving {k : BitVec 1} {ts : Timestamp} {s t : State}
    (h : exec (decodeEvent k ts) s = .next t) : t.serving = s.serving := by
  unfold decodeEvent at h
  split at h <;> injection h with h <;> subst h <;> rfl

@[simp] theorem serveAll_nil (s : State) : serveAll [] s = .next s := rfl

theorem serveAll_cons {b : ByteAccess} {bs : List ByteAccess} {s t : State} (h : exec b.instr s = .next t) :
    serveAll (b :: bs) s = serveAll bs t := by
  simp [serveAll, h]

/-- The service of a request in one step is the service of its bytes one after another. -/
theorem serveAll_cons_next {b : ByteAccess} {bs : List ByteAccess} {s u : State}
    (h : serveAll (b :: bs) s = .next u) : ∃ t, exec b.instr s = .next t ∧ serveAll bs t = .next u := by
  obtain ⟨t, ht⟩ := exec_total b.instr s
  exact ⟨t, ht, by rwa [serveAll_cons ht] at h⟩

theorem serveAll_total (bs : List ByteAccess) (s : State) : ∃ t, serveAll bs s = .next t := by
  induction bs generalizing s with
  | nil => exact ⟨s, rfl⟩
  | cons b bs ih =>
    obtain ⟨t, ht⟩ := exec_total b.instr s
    rw [serveAll_cons ht]
    exact ih t

/-- One access of the request in service, or nothing (20_memory.md R59). -/
theorem serveNext_cases (s : State) :
    (s.serving = [] ∧ serveNext s = .next s) ∨
      ∃ b bs, s.serving = b :: bs ∧ serveNext s = exec b.instr { s with serving := bs } := by
  unfold serveNext
  split
  · exact .inl ⟨by assumption, rfl⟩
  · exact .inr ⟨_, _, by assumption, rfl⟩

/-- What taking a request can do (41_bus_read.md R110, 42_bus_write.md R140; 20_memory.md R58, R59). -/
theorem takeRequest_cases (r : Request) (s : State) :
    (r.inRange = false ∧ takeRequest r s = exec r.rejected.instr s.beginResponse) ∨
    (r.inRange = true ∧ s.xactAtomic = true ∧ takeRequest r s = serveAll r.accesses s.beginResponse) ∨
    (r.inRange = true ∧ s.xactAtomic = false ∧
      takeRequest r s = serveNext { s.beginResponse with serving := r.accesses }) := by
  unfold takeRequest
  cases r.inRange <;> cases s.xactAtomic <;> simp

/-- What the bus's turn can do (60_exceptions.md R204). -/
theorem busTurn_cases (p : Presentation) (rest : List Presentation) (s : State) :
    (s.serving ≠ [] ∧ busTurn p rest s = serveNext { s with inbox := requeue p rest }) ∨
    (s.serving = [] ∧ p.req = none ∧ busTurn p rest s = .next { s with inbox := requeue p rest }) ∨
    ∃ r, s.serving = [] ∧ p.req = some r ∧
      busTurn p rest s = takeRequest r { s with inbox := requeue { p with req := none } rest } := by
  unfold busTurn
  cases hs : s.serving with
  | cons b bs => simp
  | nil => cases hr : p.req <;> simp

/-- Who is taken of what is presented (60_exceptions.md R203, R204). -/
theorem takePresented_cases (p : Presentation) (rest : List Presentation) (s : State) :
    (∃ cfg, p.rst = some cfg ∧ takePresented p rest s = exec (.reset cfg) { s with inbox := rest }) ∨
    (∃ e, p.rst = none ∧ p.ev = some e ∧ takePresented p rest s = eventTurn e p rest s) ∨
    (p.rst = none ∧ takePresented p rest s = busTurn p rest s) := by
  unfold takePresented
  cases hr : p.rst with
  | some cfg => exact .inl ⟨cfg, rfl, rfl⟩
  | none =>
    cases he : p.ev with
    | none => exact .inr (.inr ⟨rfl, rfl⟩)
    | some e =>
      dsimp only
      split
      · exact .inr (.inl ⟨e, rfl, rfl, rfl⟩)
      · exact .inr (.inr ⟨rfl, rfl⟩)

theorem step_of_inbox_nil {s : State} (h : s.inbox = []) : step s = serveNext s := by
  simp [step, runStep, h]

theorem step_of_inbox_cons {s : State} {p : Presentation} {rest : List Presentation} (h : s.inbox = p :: rest) :
    step s = takePresented p rest s := by
  simp [step, runStep, h]

/-- A run of no step. -/
theorem core_run_zero (s : State) : Host.Core.run Sys2Proof.core 0 s = .next s := rfl

/-- A run of any machine is its first step and then the rest. -/
theorem run_succ_of_step (M : Host.Core) {s t : M.State} (h : M.step s = .next t) (k : Nat) :
    M.run (k + 1) s = M.run k t := by
  rw [Host.Core.run, h]

/-- A run of this machine is its first step and then the rest. -/
theorem core_run_succ {s t : State} (h : step s = .next t) (k : Nat) :
    Host.Core.run Sys2Proof.core (k + 1) s = Host.Core.run Sys2Proof.core k t :=
  run_succ_of_step Sys2Proof.core h k

end Sys2Proof.Machine
end

