-- ==== Sys2Proof/Laws/Decode.lean ====
section
/-! SUPPORT. The key and the bytes of 16-bit cells, Timestamps and keys put together and taken apart
(30_encoding.md R71, R79). -/

namespace Sys2Proof

theorem decodeKey_keyOf_one (a : Offset) (v : Byte) : decodeKey (keyOf 1#1 a) v = decodeRead a := by
  have h1 : (keyOf 1#1 a).getLsbD 8 = true := by revert a; decide
  have h2 : (keyOf 1#1 a).setWidth 8 = a := by revert a; decide
  simp [decodeKey, h1, h2]

theorem decodeKey_keyOf_zero (a : Offset) (v : Byte) : decodeKey (keyOf 0#1 a) v = decodeWrite a v := by
  have h1 : (keyOf 0#1 a).getLsbD 8 = false := by revert a; decide
  have h2 : (keyOf 0#1 a).setWidth 8 = a := by revert a; decide
  rw [decodeKey, h1, h2]
  rfl

/-- No row of the map's addresses lies outside the map (R80). -/
theorem byteRows_lookup_outOfMap {n : Nat} (h : Config.mapSize ≤ n) : byteRows.lookup n = none := by
  refine List.lookup_eq_none_iff.2 fun p hp => ?_
  have hb : ∀ q ∈ byteRows, q.1 < Config.mapSize := by decide
  have := hb p hp
  simp only [Config.mapSize] at h this
  simp
  omega

/-- Every address of the map has a row (R80). -/
theorem byteRows_lookup_isSome {n : Nat} (h : n < Config.mapSize) : (byteRows.lookup n).isSome = true := by
  revert n
  decide

/-- What a READ outside the map decodes to (R80, 41_bus_read.md R130). -/
theorem decodeRead_outOfMap {a : Offset} (h : Config.mapSize ≤ a.toNat) :
    decodeRead a = .rdOor0 a ∨ decodeRead a = .rdOor1 a ∨ decodeRead a = .rdOor2 a := by
  unfold decodeRead
  rw [byteRows_lookup_outOfMap h]
  dsimp only
  split
  · exact .inl rfl
  · split
    · exact .inr (.inl rfl)
    · exact .inr (.inr rfl)

/-- What a WRITE outside the map decodes to (R80, 42_bus_write.md R159). -/
theorem decodeWrite_outOfMap {a : Offset} (h : Config.mapSize ≤ a.toNat) (v : Byte) :
    decodeWrite a v = .wrOor0 a v ∨ decodeWrite a v = .wrOor1 a v ∨ decodeWrite a v = .wrOor2 a v := by
  unfold decodeWrite
  rw [byteRows_lookup_outOfMap h]
  dsimp only
  split
  · exact .inl rfl
  · split
    · exact .inr (.inl rfl)
    · exact .inr (.inr rfl)

/-- A Timestamp is the word of its four bytes, least significant first (R79 item 2). -/
theorem leWord_leByte (w : Timestamp) :
    Machine.leWord (Machine.leByte w 0) (Machine.leByte w 1) (Machine.leByte w 2) (Machine.leByte w 3) = w := by
  apply BitVec.eq_of_getLsbD_eq
  intro i hi
  simp only [Machine.leWord, Machine.leByte, BitVec.getLsbD_append, BitVec.getLsbD_extractLsb']
  by_cases h1 : i < 8
  · simp [h1]
  · by_cases h2 : i - 8 < 8
    · simp [h1, h2, show 8 + (i - 8) = i by omega]
    · by_cases h3 : i - 8 - 8 < 8
      · simp [h1, h2, h3, show 16 + (i - 8 - 8) = i by omega]
      · simp [h1, h2, h3, show 24 + (i - 8 - 8 - 8) = i by omega]
        omega

/-- A 16-bit cell is the concatenation of its two bytes (R79 item 1). -/
theorem halfOf_highByte_lowByte (w : Half) : Machine.halfOf (Machine.highByte w) (Machine.lowByte w) = w := by
  apply BitVec.eq_of_getLsbD_eq
  intro i hi
  simp only [Machine.halfOf, Machine.highByte, Machine.lowByte, BitVec.getLsbD_append, BitVec.getLsbD_extractLsb']
  by_cases h1 : i < 8
  · simp [h1]
  · simp [h1, show 8 + (i - 8) = i by omega]
    omega

theorem lowByte_halfOf (h l : Byte) : Machine.lowByte (Machine.halfOf h l) = l := by
  apply BitVec.eq_of_getLsbD_eq
  intro i hi
  simp only [Machine.lowByte, Machine.halfOf, BitVec.getLsbD_append, BitVec.getLsbD_extractLsb']
  simp [hi]

theorem highByte_halfOf (h l : Byte) : Machine.highByte (Machine.halfOf h l) = h := by
  apply BitVec.eq_of_getLsbD_eq
  intro i hi
  simp only [Machine.highByte, Machine.halfOf, BitVec.getLsbD_append, BitVec.getLsbD_extractLsb']
  simp [hi]

end Sys2Proof
end

