-- ==== Sys2Proof/Laws/Map.lean ====
section
/-! SUPPORT. The register map address by address, as the table of 30_encoding.md R74 lists it: what each byte reads as,
and what a byte written there does. -/

namespace Sys2Proof.Machine

@[simp] theorem Block.mapByte_00 (b : Block) :
    b.mapByte 0x00 = some (BitVec.ofNat 8 (flagAt b.isPressed 0 + flagAt b.hasBeenClicked 1)) := rfl

@[simp] theorem Block.mapByte_01 (b : Block) :
    b.mapByte 0x01 = some (natByte b.debounce.toNat 0) := rfl

@[simp] theorem Block.mapByte_02 (b : Block) :
    b.mapByte 0x02 = some (natByte b.debounce.toNat 1) := rfl

@[simp] theorem Block.mapByte_03 (b : Block) :
    b.mapByte 0x03 = some (BitVec.ofNat 8 (flagAt b.pressedEnable 0 + flagAt b.clickedEnable 1 + flagAt b.status 2)) := rfl

@[simp] theorem Block.mapByte_04 (b : Block) :
    b.mapByte 0x04 = some (BitVec.ofNat 8 (flagAt (b.queueP.size == Config.capacity) 5 + flagAt (b.queueP.size == 0) 6)) := rfl

@[simp] theorem Block.mapByte_05 (b : Block) :
    b.mapByte 0x05 = (b.queueP.contents.getLast?).map (fun w => natByte w.toNat 0) := rfl

@[simp] theorem Block.mapByte_06 (b : Block) :
    b.mapByte 0x06 = (b.queueP.contents.getLast?).map (fun w => natByte w.toNat 1) := rfl

@[simp] theorem Block.mapByte_07 (b : Block) :
    b.mapByte 0x07 = (b.queueP.contents.getLast?).map (fun w => natByte w.toNat 2) := rfl

@[simp] theorem Block.mapByte_08 (b : Block) :
    b.mapByte 0x08 = (b.queueP.contents.getLast?).map (fun w => natByte w.toNat 3) := rfl

@[simp] theorem Block.mapByte_09 (b : Block) :
    b.mapByte 0x09 = (b.queueP.contents.head?).map (fun w => natByte w.toNat 0) := rfl

@[simp] theorem Block.mapByte_0A (b : Block) :
    b.mapByte 0x0A = (b.queueP.contents.head?).map (fun w => natByte w.toNat 1) := rfl

@[simp] theorem Block.mapByte_0B (b : Block) :
    b.mapByte 0x0B = (b.queueP.contents.head?).map (fun w => natByte w.toNat 2) := rfl

@[simp] theorem Block.mapByte_0C (b : Block) :
    b.mapByte 0x0C = (b.queueP.contents.head?).map (fun w => natByte w.toNat 3) := rfl

@[simp] theorem Block.mapByte_0D (b : Block) :
    b.mapByte 0x0D = some (BitVec.ofNat 8 (flagAt (b.queueC.size == Config.capacity) 5 + flagAt (b.queueC.size == 0) 6)) := rfl

@[simp] theorem Block.mapByte_0E (b : Block) :
    b.mapByte 0x0E = (b.queueC.contents.getLast?).map (fun w => natByte w.toNat 0) := rfl

@[simp] theorem Block.mapByte_0F (b : Block) :
    b.mapByte 0x0F = (b.queueC.contents.getLast?).map (fun w => natByte w.toNat 1) := rfl

@[simp] theorem Block.mapByte_10 (b : Block) :
    b.mapByte 0x10 = (b.queueC.contents.getLast?).map (fun w => natByte w.toNat 2) := rfl

@[simp] theorem Block.mapByte_11 (b : Block) :
    b.mapByte 0x11 = (b.queueC.contents.getLast?).map (fun w => natByte w.toNat 3) := rfl

@[simp] theorem Block.mapByte_12 (b : Block) :
    b.mapByte 0x12 = (b.queueC.contents.head?).map (fun w => natByte w.toNat 0) := rfl

@[simp] theorem Block.mapByte_13 (b : Block) :
    b.mapByte 0x13 = (b.queueC.contents.head?).map (fun w => natByte w.toNat 1) := rfl

@[simp] theorem Block.mapByte_14 (b : Block) :
    b.mapByte 0x14 = (b.queueC.contents.head?).map (fun w => natByte w.toNat 2) := rfl

@[simp] theorem Block.mapByte_15 (b : Block) :
    b.mapByte 0x15 = (b.queueC.contents.head?).map (fun w => natByte w.toNat 3) := rfl

@[simp] theorem Block.mapByte_16 (b : Block) :
    b.mapByte 0x16 = some b.ledBrightness := rfl

@[simp] theorem Block.mapByte_17 (b : Block) :
    b.mapByte 0x17 = some b.ledPulseGranularity := rfl

@[simp] theorem Block.mapByte_18 (b : Block) :
    b.mapByte 0x18 = some (natByte b.ledPulseCycleTime.toNat 0) := rfl

@[simp] theorem Block.mapByte_19 (b : Block) :
    b.mapByte 0x19 = some (natByte b.ledPulseCycleTime.toNat 1) := rfl

@[simp] theorem Block.mapByte_1A (b : Block) :
    b.mapByte 0x1A = some (natByte b.ledPulseOffTime.toNat 0) := rfl

@[simp] theorem Block.mapByte_1B (b : Block) :
    b.mapByte 0x1B = some (natByte b.ledPulseOffTime.toNat 1) := rfl

@[simp] theorem Block.mapByte_1C (b : Block) :
    b.mapByte 0x1C = some b.i2cAddress := rfl

@[simp] theorem Block.mapByte_1D (b : Block) :
    b.mapByte 0x1D = some Config.deviceId := rfl

@[simp] theorem Block.mapByte_1E (b : Block) :
    b.mapByte 0x1E = some Config.fwMinor := rfl

@[simp] theorem Block.mapByte_1F (b : Block) :
    b.mapByte 0x1F = some Config.fwMajor := rfl

@[simp] theorem Block.mapWrite_00 (b : Block) (v : Byte) :
    b.mapWrite 0x00 v = { b with hasBeenClicked := b.hasBeenClicked && bitOf v 1 } := rfl

@[simp] theorem Block.mapWrite_01 (b : Block) (v : Byte) :
    b.mapWrite 0x01 v = { b with debounce := storeByte b.debounce 0 v } := rfl

@[simp] theorem Block.mapWrite_02 (b : Block) (v : Byte) :
    b.mapWrite 0x02 v = { b with debounce := storeByte b.debounce 1 v } := rfl

@[simp] theorem Block.mapWrite_03 (b : Block) (v : Byte) :
    b.mapWrite 0x03 v = { b with pressedEnable := bitOf v 0, clickedEnable := bitOf v 1, status := b.status && bitOf v 2 } := rfl

@[simp] theorem Block.mapWrite_04 (b : Block) (v : Byte) :
    b.mapWrite 0x04 v = if bitOf v 7 then { b with queueP := b.queueP.pop } else b := rfl

@[simp] theorem Block.mapWrite_05 (b : Block) (v : Byte) :
    b.mapWrite 0x05 v = b := rfl

@[simp] theorem Block.mapWrite_06 (b : Block) (v : Byte) :
    b.mapWrite 0x06 v = b := rfl

@[simp] theorem Block.mapWrite_07 (b : Block) (v : Byte) :
    b.mapWrite 0x07 v = b := rfl

@[simp] theorem Block.mapWrite_08 (b : Block) (v : Byte) :
    b.mapWrite 0x08 v = b := rfl

@[simp] theorem Block.mapWrite_09 (b : Block) (v : Byte) :
    b.mapWrite 0x09 v = b := rfl

@[simp] theorem Block.mapWrite_0A (b : Block) (v : Byte) :
    b.mapWrite 0x0A v = b := rfl

@[simp] theorem Block.mapWrite_0B (b : Block) (v : Byte) :
    b.mapWrite 0x0B v = b := rfl

@[simp] theorem Block.mapWrite_0C (b : Block) (v : Byte) :
    b.mapWrite 0x0C v = b := rfl

@[simp] theorem Block.mapWrite_0D (b : Block) (v : Byte) :
    b.mapWrite 0x0D v = if bitOf v 7 then { b with queueC := b.queueC.pop } else b := rfl

@[simp] theorem Block.mapWrite_0E (b : Block) (v : Byte) :
    b.mapWrite 0x0E v = b := rfl

@[simp] theorem Block.mapWrite_0F (b : Block) (v : Byte) :
    b.mapWrite 0x0F v = b := rfl

@[simp] theorem Block.mapWrite_10 (b : Block) (v : Byte) :
    b.mapWrite 0x10 v = b := rfl

@[simp] theorem Block.mapWrite_11 (b : Block) (v : Byte) :
    b.mapWrite 0x11 v = b := rfl

@[simp] theorem Block.mapWrite_12 (b : Block) (v : Byte) :
    b.mapWrite 0x12 v = b := rfl

@[simp] theorem Block.mapWrite_13 (b : Block) (v : Byte) :
    b.mapWrite 0x13 v = b := rfl

@[simp] theorem Block.mapWrite_14 (b : Block) (v : Byte) :
    b.mapWrite 0x14 v = b := rfl

@[simp] theorem Block.mapWrite_15 (b : Block) (v : Byte) :
    b.mapWrite 0x15 v = b := rfl

@[simp] theorem Block.mapWrite_16 (b : Block) (v : Byte) :
    b.mapWrite 0x16 v = { b with ledBrightness := v } := rfl

@[simp] theorem Block.mapWrite_17 (b : Block) (v : Byte) :
    b.mapWrite 0x17 v = { b with ledPulseGranularity := v } := rfl

@[simp] theorem Block.mapWrite_18 (b : Block) (v : Byte) :
    b.mapWrite 0x18 v = { b with ledPulseCycleTime := storeByte b.ledPulseCycleTime 0 v } := rfl

@[simp] theorem Block.mapWrite_19 (b : Block) (v : Byte) :
    b.mapWrite 0x19 v = { b with ledPulseCycleTime := storeByte b.ledPulseCycleTime 1 v } := rfl

@[simp] theorem Block.mapWrite_1A (b : Block) (v : Byte) :
    b.mapWrite 0x1A v = { b with ledPulseOffTime := storeByte b.ledPulseOffTime 0 v } := rfl

@[simp] theorem Block.mapWrite_1B (b : Block) (v : Byte) :
    b.mapWrite 0x1B v = { b with ledPulseOffTime := storeByte b.ledPulseOffTime 1 v } := rfl

@[simp] theorem Block.mapWrite_1C (b : Block) (v : Byte) :
    b.mapWrite 0x1C v = { b with i2cAddress := v } := rfl

@[simp] theorem Block.mapWrite_1D (b : Block) (v : Byte) :
    b.mapWrite 0x1D v = b := rfl

@[simp] theorem Block.mapWrite_1E (b : Block) (v : Byte) :
    b.mapWrite 0x1E v = b := rfl

@[simp] theorem Block.mapWrite_1F (b : Block) (v : Byte) :
    b.mapWrite 0x1F v = b := rfl

end Sys2Proof.Machine
end

