-- ==== Sys2Proof/Laws/PerInstr.lean ====
section
/-! SUPPORT. Family RowApplies: the bytes the encoder writes for a well-formed instruction carry a key that the
instruction's own row of opcode_table.json selects, `key & mask == match` (30_encoding.md R80). -/

namespace Sys2Proof.Laws.RowApplies

def Statement (i : Instr) : Prop :=
  i.wellFormed = true → rowApplies (keyOfBytes (encode i).1 (encode i).2) i.row = true

theorem outOfRange_read (row : Key × Key) (wf : Offset → Bool)
    (h : ∀ a, wf a = true → rowApplies (keyOf 1#1 a) row = true) (a : Offset) (ha : wf a = true) :
    rowApplies (keyOfBytes (readBytesOf a).1 (readBytesOf a).2) row = true := h a ha

theorem outOfRange_write (row : Key × Key) (wf : Offset → Bool)
    (h : ∀ a, wf a = true → rowApplies (keyOf 0#1 a) row = true) (a : Offset) (v : Byte) (ha : wf a = true) :
    rowApplies (keyOfBytes (writeBytesOf a v).1 (writeBytesOf a v).2) row = true := h a ha

theorem exact_write (base j : Nat) (v : Byte)
    (h : rowApplies (keyOf 0#1 (Map.byteAddr base j)) (exactRow Map.rwWrite base j) = true) :
    rowApplies (keyOfBytes (writeBytesOf (Map.byteAddr base j) v).1 (writeBytesOf (Map.byteAddr base j) v).2)
      (exactRow Map.rwWrite base j) = true := h

theorem rdButtonStatus : Statement .rdButtonStatus := fun _ => rfl
theorem rdButtonDebounceTimeB0 : Statement .rdButtonDebounceTimeB0 := fun _ => rfl
theorem rdButtonDebounceTimeB1 : Statement .rdButtonDebounceTimeB1 := fun _ => rfl
theorem rdInterruptConfig : Statement .rdInterruptConfig := fun _ => rfl
theorem rdPressedQueueStatus : Statement .rdPressedQueueStatus := fun _ => rfl
theorem rdPressedQueueFrontB0 : Statement .rdPressedQueueFrontB0 := fun _ => rfl
theorem rdPressedQueueFrontB1 : Statement .rdPressedQueueFrontB1 := fun _ => rfl
theorem rdPressedQueueFrontB2 : Statement .rdPressedQueueFrontB2 := fun _ => rfl
theorem rdPressedQueueFrontB3 : Statement .rdPressedQueueFrontB3 := fun _ => rfl
theorem rdPressedQueueBackB0 : Statement .rdPressedQueueBackB0 := fun _ => rfl
theorem rdPressedQueueBackB1 : Statement .rdPressedQueueBackB1 := fun _ => rfl
theorem rdPressedQueueBackB2 : Statement .rdPressedQueueBackB2 := fun _ => rfl
theorem rdPressedQueueBackB3 : Statement .rdPressedQueueBackB3 := fun _ => rfl
theorem rdClickedQueueStatus : Statement .rdClickedQueueStatus := fun _ => rfl
theorem rdClickedQueueFrontB0 : Statement .rdClickedQueueFrontB0 := fun _ => rfl
theorem rdClickedQueueFrontB1 : Statement .rdClickedQueueFrontB1 := fun _ => rfl
theorem rdClickedQueueFrontB2 : Statement .rdClickedQueueFrontB2 := fun _ => rfl
theorem rdClickedQueueFrontB3 : Statement .rdClickedQueueFrontB3 := fun _ => rfl
theorem rdClickedQueueBackB0 : Statement .rdClickedQueueBackB0 := fun _ => rfl
theorem rdClickedQueueBackB1 : Statement .rdClickedQueueBackB1 := fun _ => rfl
theorem rdClickedQueueBackB2 : Statement .rdClickedQueueBackB2 := fun _ => rfl
theorem rdClickedQueueBackB3 : Statement .rdClickedQueueBackB3 := fun _ => rfl
theorem rdLedBrightness : Statement .rdLedBrightness := fun _ => rfl
theorem rdLedPulseGranularity : Statement .rdLedPulseGranularity := fun _ => rfl
theorem rdLedPulseCycleTimeB0 : Statement .rdLedPulseCycleTimeB0 := fun _ => rfl
theorem rdLedPulseCycleTimeB1 : Statement .rdLedPulseCycleTimeB1 := fun _ => rfl
theorem rdLedPulseOffTimeB0 : Statement .rdLedPulseOffTimeB0 := fun _ => rfl
theorem rdLedPulseOffTimeB1 : Statement .rdLedPulseOffTimeB1 := fun _ => rfl
theorem rdI2cAddress : Statement .rdI2cAddress := fun _ => rfl
theorem rdId : Statement .rdId := fun _ => rfl
theorem rdFirmwareMinor : Statement .rdFirmwareMinor := fun _ => rfl
theorem rdFirmwareMajor : Statement .rdFirmwareMajor := fun _ => rfl
theorem rdOor0 (a : Offset) : Statement (.rdOor0 a) := fun h =>
  outOfRange_read (rangeRow Map.rwRead Map.outOfRange0) (Map.inRow Map.outOfRange0) (by decide) a h
theorem rdOor1 (a : Offset) : Statement (.rdOor1 a) := fun h =>
  outOfRange_read (rangeRow Map.rwRead Map.outOfRange1) (Map.inRow Map.outOfRange1) (by decide) a h
theorem rdOor2 (a : Offset) : Statement (.rdOor2 a) := fun h =>
  outOfRange_read (rangeRow Map.rwRead Map.outOfRange2) (Map.inRow Map.outOfRange2) (by decide) a h
theorem wrButtonStatus (v : Byte) : Statement (.wrButtonStatus v) := fun _ =>
  exact_write Map.buttonStatus 0 v (by decide)
theorem wrButtonDebounceTimeB0 (v : Byte) : Statement (.wrButtonDebounceTimeB0 v) := fun _ =>
  exact_write Map.buttonDebounceTime 0 v (by decide)
theorem wrButtonDebounceTimeB1 (v : Byte) : Statement (.wrButtonDebounceTimeB1 v) := fun _ =>
  exact_write Map.buttonDebounceTime 1 v (by decide)
theorem wrInterruptConfig (v : Byte) : Statement (.wrInterruptConfig v) := fun _ =>
  exact_write Map.interruptConfig 0 v (by decide)
theorem wrPressedQueueStatus (v : Byte) : Statement (.wrPressedQueueStatus v) := fun _ =>
  exact_write Map.pressedQueueStatus 0 v (by decide)
theorem wrPressedQueueFrontB0 (v : Byte) : Statement (.wrPressedQueueFrontB0 v) := fun _ =>
  exact_write Map.pressedQueueFront 0 v (by decide)
theorem wrPressedQueueFrontB1 (v : Byte) : Statement (.wrPressedQueueFrontB1 v) := fun _ =>
  exact_write Map.pressedQueueFront 1 v (by decide)
theorem wrPressedQueueFrontB2 (v : Byte) : Statement (.wrPressedQueueFrontB2 v) := fun _ =>
  exact_write Map.pressedQueueFront 2 v (by decide)
theorem wrPressedQueueFrontB3 (v : Byte) : Statement (.wrPressedQueueFrontB3 v) := fun _ =>
  exact_write Map.pressedQueueFront 3 v (by decide)
theorem wrPressedQueueBackB0 (v : Byte) : Statement (.wrPressedQueueBackB0 v) := fun _ =>
  exact_write Map.pressedQueueBack 0 v (by decide)
theorem wrPressedQueueBackB1 (v : Byte) : Statement (.wrPressedQueueBackB1 v) := fun _ =>
  exact_write Map.pressedQueueBack 1 v (by decide)
theorem wrPressedQueueBackB2 (v : Byte) : Statement (.wrPressedQueueBackB2 v) := fun _ =>
  exact_write Map.pressedQueueBack 2 v (by decide)
theorem wrPressedQueueBackB3 (v : Byte) : Statement (.wrPressedQueueBackB3 v) := fun _ =>
  exact_write Map.pressedQueueBack 3 v (by decide)
theorem wrClickedQueueStatus (v : Byte) : Statement (.wrClickedQueueStatus v) := fun _ =>
  exact_write Map.clickedQueueStatus 0 v (by decide)
theorem wrClickedQueueFrontB0 (v : Byte) : Statement (.wrClickedQueueFrontB0 v) := fun _ =>
  exact_write Map.clickedQueueFront 0 v (by decide)
theorem wrClickedQueueFrontB1 (v : Byte) : Statement (.wrClickedQueueFrontB1 v) := fun _ =>
  exact_write Map.clickedQueueFront 1 v (by decide)
theorem wrClickedQueueFrontB2 (v : Byte) : Statement (.wrClickedQueueFrontB2 v) := fun _ =>
  exact_write Map.clickedQueueFront 2 v (by decide)
theorem wrClickedQueueFrontB3 (v : Byte) : Statement (.wrClickedQueueFrontB3 v) := fun _ =>
  exact_write Map.clickedQueueFront 3 v (by decide)
theorem wrClickedQueueBackB0 (v : Byte) : Statement (.wrClickedQueueBackB0 v) := fun _ =>
  exact_write Map.clickedQueueBack 0 v (by decide)
theorem wrClickedQueueBackB1 (v : Byte) : Statement (.wrClickedQueueBackB1 v) := fun _ =>
  exact_write Map.clickedQueueBack 1 v (by decide)
theorem wrClickedQueueBackB2 (v : Byte) : Statement (.wrClickedQueueBackB2 v) := fun _ =>
  exact_write Map.clickedQueueBack 2 v (by decide)
theorem wrClickedQueueBackB3 (v : Byte) : Statement (.wrClickedQueueBackB3 v) := fun _ =>
  exact_write Map.clickedQueueBack 3 v (by decide)
theorem wrLedBrightness (v : Byte) : Statement (.wrLedBrightness v) := fun _ =>
  exact_write Map.ledBrightness 0 v (by decide)
theorem wrLedPulseGranularity (v : Byte) : Statement (.wrLedPulseGranularity v) := fun _ =>
  exact_write Map.ledPulseGranularity 0 v (by decide)
theorem wrLedPulseCycleTimeB0 (v : Byte) : Statement (.wrLedPulseCycleTimeB0 v) := fun _ =>
  exact_write Map.ledPulseCycleTime 0 v (by decide)
theorem wrLedPulseCycleTimeB1 (v : Byte) : Statement (.wrLedPulseCycleTimeB1 v) := fun _ =>
  exact_write Map.ledPulseCycleTime 1 v (by decide)
theorem wrLedPulseOffTimeB0 (v : Byte) : Statement (.wrLedPulseOffTimeB0 v) := fun _ =>
  exact_write Map.ledPulseOffTime 0 v (by decide)
theorem wrLedPulseOffTimeB1 (v : Byte) : Statement (.wrLedPulseOffTimeB1 v) := fun _ =>
  exact_write Map.ledPulseOffTime 1 v (by decide)
theorem wrI2cAddress (v : Byte) : Statement (.wrI2cAddress v) := fun _ =>
  exact_write Map.i2cAddress 0 v (by decide)
theorem wrId (v : Byte) : Statement (.wrId v) := fun _ =>
  exact_write Map.id 0 v (by decide)
theorem wrFirmwareMinor (v : Byte) : Statement (.wrFirmwareMinor v) := fun _ =>
  exact_write Map.firmwareMinor 0 v (by decide)
theorem wrFirmwareMajor (v : Byte) : Statement (.wrFirmwareMajor v) := fun _ =>
  exact_write Map.firmwareMajor 0 v (by decide)
theorem wrOor0 (a : Offset) (v : Byte) : Statement (.wrOor0 a v) := fun h =>
  outOfRange_write (rangeRow Map.rwWrite Map.outOfRange0) (Map.inRow Map.outOfRange0) (by decide) a v h
theorem wrOor1 (a : Offset) (v : Byte) : Statement (.wrOor1 a v) := fun h =>
  outOfRange_write (rangeRow Map.rwWrite Map.outOfRange1) (Map.inRow Map.outOfRange1) (by decide) a v h
theorem wrOor2 (a : Offset) (v : Byte) : Statement (.wrOor2 a v) := fun h =>
  outOfRange_write (rangeRow Map.rwWrite Map.outOfRange2) (Map.inRow Map.outOfRange2) (by decide) a v h
theorem evPress (ts : Timestamp) : Statement (.evPress ts) := fun _ =>
  (by decide : rowApplies (((0x00#8).setWidth 1).setWidth 9) (0x000#9, 0x001#9) = true)
theorem evClick (ts : Timestamp) : Statement (.evClick ts) := fun _ =>
  (by decide : rowApplies (((0x01#8).setWidth 1).setWidth 9) (0x001#9, 0x001#9) = true)
theorem reset (cfg : Cfg) : Statement (.reset cfg) := fun _ =>
  (by decide : rowApplies (0) (0x000#9, 0x000#9) = true)

end Sys2Proof.Laws.RowApplies
end

