-- ==== Sys2Proof/Laws/Queue.lean ====
section
/-! SUPPORT. What the queue's operations do, field by field and on its size (40_queue.md R91 to R98). -/

namespace Sys2Proof.Machine

theorem incIndex_val (i : Fin Config.capacity) : (incIndex i).val = (i.val + 1) % Config.capacity := rfl

theorem decIndex_val (i : Fin Config.capacity) :
    (decIndex i).val = (i.val + Config.capacity - 1) % Config.capacity := rfl

/-- `dec` undoes `inc` (R91). -/
@[simp] theorem decIndex_incIndex (i : Fin Config.capacity) : decIndex (incIndex i) = i := by
  apply Fin.ext
  have := i.isLt
  simp only [decIndex_val, incIndex_val, Config.capacity] at *
  omega

/-- `inc` undoes `dec` (R91). -/
@[simp] theorem incIndex_decIndex (i : Fin Config.capacity) : incIndex (decIndex i) = i := by
  apply Fin.ext
  have := i.isLt
  simp only [decIndex_val, incIndex_val, Config.capacity] at *
  omega

@[simp] theorem Queue.push_head (q : Queue) (t : Timestamp) : (q.push t).head = incIndex q.head := rfl

@[simp] theorem Queue.push_buf (q : Queue) (t : Timestamp) : (q.push t).buf = q.buf.set q.head.val t := rfl

@[simp] theorem Queue.push_tail (q : Queue) (t : Timestamp) :
    (q.push t).tail = if q.full then incIndex q.tail else q.tail := rfl

@[simp] theorem Queue.push_full (q : Queue) (t : Timestamp) :
    (q.push t).full = (incIndex q.head == if q.full then incIndex q.tail else q.tail) := rfl

/-- R93: an empty queue is unchanged by `pop`. -/
theorem Queue.pop_of_isEmpty {q : Queue} (h : q.isEmpty = true) : q.pop = q := by
  simp [Queue.pop, h]

/-- R93: `pop` of a queue that holds an entry moves `tail` and clears `full`. -/
theorem Queue.pop_of_not_isEmpty {q : Queue} (h : q.isEmpty = false) :
    q.pop = { q with tail := incIndex q.tail, full := false } := by
  simp [Queue.pop, h]

/-- R94: `front` of a queue that holds an entry. -/
theorem Queue.front_of_not_isEmpty {q : Queue} (h : q.isEmpty = false) (t : Timestamp) :
    q.front t = q.buf[(decIndex q.head).val] := by
  simp [Queue.front, h]

/-- R95: `back` of a queue that holds an entry. -/
theorem Queue.back_of_not_isEmpty {q : Queue} (h : q.isEmpty = false) (t : Timestamp) :
    q.back t = q.buf[q.tail.val] := by
  simp [Queue.back, h]

/-- R98: `size` lies between 0 and `CAPACITY`. -/
theorem Queue.size_le (q : Queue) : q.size ≤ Config.capacity := by
  unfold Queue.size
  split
  · exact le_rfl
  · exact (Nat.mod_lt _ (by decide)).le

@[simp] theorem Queue.contents_length (q : Queue) : q.contents.length = q.size := by
  simp [Queue.contents]

/-- Every entry of `contents` is a slot, counted from `tail` (10_state.md R34). -/
theorem Queue.contents_getElem (q : Queue) (i : Nat) (h : i < q.contents.length) :
    q.contents[i] = q.buf[(q.tail.val + i) % Config.capacity]'(Nat.mod_lt _ (by decide)) := by
  simp [Queue.contents]

/-- R33: `push` keeps the queue invariant. -/
theorem Queue.push_wf (q : Queue) (t : Timestamp) : (q.push t).Wf := by
  intro h
  simpa using h

/-- R33: `pop` keeps the queue invariant. -/
theorem Queue.pop_wf {q : Queue} (h : q.Wf) : q.pop.Wf := by
  unfold Queue.pop
  split
  · exact h
  · intro hf
    exact absurd hf (by simp)

theorem Queue.empty_wf : Queue.empty.Wf := by decide

theorem Queue.fresh_wf (n : Nat) : (Queue.fresh n).Wf := by
  intro h
  exact absurd h (by simp [Queue.fresh])

/-- What a byte written to a queue's status register can do (42_bus_write.md R145, R148). -/
theorem Queue.request_cases (q : Queue) (v : Byte) :
    (v.getLsbD 7 = true ∧ q.request v = q.pop) ∨ (v.getLsbD 7 = false ∧ q.request v = q) := by
  unfold Queue.request writtenPopRequest
  cases v.getLsbD 7
  · exact .inr ⟨rfl, rfl⟩
  · exact .inl ⟨rfl, rfl⟩

theorem Queue.request_wf {q : Queue} (h : q.Wf) (v : Byte) : (q.request v).Wf := by
  rcases q.request_cases v with ⟨_, e⟩ | ⟨_, e⟩ <;> rw [e]
  · exact Queue.pop_wf h
  · exact h

end Sys2Proof.Machine
end

