-- ==== Sys2Proof/Tests/Slice0.lean ====
section
/-! SUPPORT. Tests on small states, and for each statement with hypotheses a named witness that meets them. Expected
values are those of 95_test_vectors.md or of the table of 30_encoding.md, named in each comment. -/

open Sys2Proof Sys2Proof.Machine

namespace Sys2Proof.Tests

/-! ### Helpers -/

/-- A queue after these pushes from reset. -/
def queueOf (ts : List Nat) : Queue := ts.foldl (fun q t => q.push (BitVec.ofNat 32 t)) Queue.empty

/-- Reset state `CFG0` with another block. -/
def withBlk (f : Block → Block) : State := { State.reset with blk := f State.reset.blk }

/-- A state in which every cell is distinctive. -/
def sample : State :=
  withBlk fun b => { b with
    isPressed := true, hasBeenClicked := true, debounce := 0x01F4, pressedEnable := true, clickedEnable := false,
    status := true, queueP := queueOf [1, 2], queueC := queueOf [5, 6], ledBrightness := 0x7F,
    ledPulseGranularity := 0x03, ledPulseCycleTime := 0xABCD, ledPulseOffTime := 0x0102 }

/-- The same, requests served byte by byte. -/
def granular : State := { sample with xactAtomic := false }

/-- The state a step answers. -/
def after (r : Result) : State :=
  match r with
  | .next t => t
  | .fault _ => State.reset
  | .refused _ => State.reset

/-- One READ. -/
def rd (s : State) (o : Offset) (n : Nat) : State := after (step (s.presenting (.ofRequest (.read o n))))

/-- One WRITE. -/
def wr (s : State) (o : Offset) (w : List Byte) : State := after (step (s.presenting (.ofRequest (.write o w))))

/-- One event. -/
def ev (s : State) (k : BitVec 1) (t : Timestamp) : State := after (step (s.presenting (.ofEvent ⟨k, t⟩)))

/-- `(isPressed, hasBeenClicked, status, pressedEnable, clickedEnable)` of 95_test_vectors.md. -/
def flags (s : State) : List Bool :=
  [s.blk.isPressed, s.blk.hasBeenClicked, s.blk.status, s.blk.pressedEnable, s.blk.clickedEnable]

/-- Reset state `CFG0` with these five flags. -/
def flagged (p c st pe ce : Bool) : State :=
  withBlk fun b => { b with isPressed := p, hasBeenClicked := c, status := st, pressedEnable := pe, clickedEnable := ce }

/-! ### The named literals (00_scope.md R8) against the spec's layout and masks -/

/-- R73: the fields fill the map, each starting where the one before it ends. -/
theorem test_layout_is_contiguous :
    Map.layout.foldl (fun next f => if f.1 = next then next + f.2 else 0) 0 = Config.mapSize := by decide

/-- R76 to R78: the masks. -/
theorem test_masks :
    [Map.isPressedBit, Map.hasBeenClickedBit, Map.pressedEnableBit, Map.clickedEnableBit, Map.statusBit, Map.isFullBit,
      Map.isEmptyBit, Map.popRequestBit].map Map.bitMask = [0x01, 0x02, 0x01, 0x02, 0x04, 0x20, 0x40, 0x80] ∧
    Map.buttonStatusReserved = 0xFC ∧ Map.interruptConfigReserved = 0xF8 ∧ Map.queueStatusReserved = 0x1F := by decide

/-! ### Well-formedness: each check refuses an ill-formed term (30_encoding.md R80) -/

theorem test_wellFormed_rdOor0 : (Instr.rdOor0 0x7F).wellFormed = false ∧ (Instr.rdOor0 0x80).wellFormed = true := by
  decide

theorem test_wellFormed_rdOor1 : (Instr.rdOor1 0x3F).wellFormed = false ∧ (Instr.rdOor1 0x80).wellFormed = false ∧
    (Instr.rdOor1 0x40).wellFormed = true ∧ (Instr.rdOor1 0x7F).wellFormed = true := by decide

theorem test_wellFormed_rdOor2 : (Instr.rdOor2 0x1F).wellFormed = false ∧ (Instr.rdOor2 0x40).wellFormed = false ∧
    (Instr.rdOor2 0x20).wellFormed = true ∧ (Instr.rdOor2 0x3F).wellFormed = true := by decide

theorem test_wellFormed_wrOor0 : (Instr.wrOor0 0x00 1).wellFormed = false ∧ (Instr.wrOor0 0xFF 1).wellFormed = true := by
  decide

theorem test_wellFormed_wrOor1 : (Instr.wrOor1 0x20 1).wellFormed = false ∧ (Instr.wrOor1 0x7F 1).wellFormed = true := by
  decide

theorem test_wellFormed_wrOor2 : (Instr.wrOor2 0x5F 1).wellFormed = false ∧ (Instr.wrOor2 0x20 1).wellFormed = true := by
  decide

/-! ### Decoding: each row's word, written out from its key `{rw, a}` (30_encoding.md R71, R72, R80) -/

theorem test_decode_reads_00_to_07 :
  [0x100, 0x101, 0x102, 0x103, 0x104, 0x105, 0x106, 0x107].map (decodeTableWord 16) =
    [some .rdButtonStatus, some .rdButtonDebounceTimeB0, some .rdButtonDebounceTimeB1, some .rdInterruptConfig, some
     .rdPressedQueueStatus, some .rdPressedQueueFrontB0, some .rdPressedQueueFrontB1, some .rdPressedQueueFrontB2] :=
     by decide

theorem test_decode_reads_08_to_0F :
  [0x108, 0x109, 0x10A, 0x10B, 0x10C, 0x10D, 0x10E, 0x10F].map (decodeTableWord 16) =
    [some .rdPressedQueueFrontB3, some .rdPressedQueueBackB0, some .rdPressedQueueBackB1, some .rdPressedQueueBackB2,
     some .rdPressedQueueBackB3, some .rdClickedQueueStatus, some .rdClickedQueueFrontB0, some .rdClickedQueueFrontB1]
     := by decide

theorem test_decode_reads_10_to_17 :
  [0x110, 0x111, 0x112, 0x113, 0x114, 0x115, 0x116, 0x117].map (decodeTableWord 16) =
    [some .rdClickedQueueFrontB2, some .rdClickedQueueFrontB3, some .rdClickedQueueBackB0, some .rdClickedQueueBackB1,
     some .rdClickedQueueBackB2, some .rdClickedQueueBackB3, some .rdLedBrightness, some .rdLedPulseGranularity] := by
     decide

theorem test_decode_reads_18_to_1F :
  [0x118, 0x119, 0x11A, 0x11B, 0x11C, 0x11D, 0x11E, 0x11F].map (decodeTableWord 16) =
    [some .rdLedPulseCycleTimeB0, some .rdLedPulseCycleTimeB1, some .rdLedPulseOffTimeB0, some .rdLedPulseOffTimeB1,
     some .rdI2cAddress, some .rdId, some .rdFirmwareMinor, some .rdFirmwareMajor] := by decide

theorem test_decode_writes_00_to_07 :
  [0x000, 0x001, 0x002, 0x003, 0x004, 0x005, 0x006, 0x007].map (decodeTableWord 16) =
    [some (.wrButtonStatus 0), some (.wrButtonDebounceTimeB0 0), some (.wrButtonDebounceTimeB1 0), some
     (.wrInterruptConfig 0), some (.wrPressedQueueStatus 0), some (.wrPressedQueueFrontB0 0), some
     (.wrPressedQueueFrontB1 0), some (.wrPressedQueueFrontB2 0)] := by decide

theorem test_decode_writes_08_to_0F :
  [0x008, 0x009, 0x00A, 0x00B, 0x00C, 0x00D, 0x00E, 0x00F].map (decodeTableWord 16) =
    [some (.wrPressedQueueFrontB3 0), some (.wrPressedQueueBackB0 0), some (.wrPressedQueueBackB1 0), some
     (.wrPressedQueueBackB2 0), some (.wrPressedQueueBackB3 0), some (.wrClickedQueueStatus 0), some
     (.wrClickedQueueFrontB0 0), some (.wrClickedQueueFrontB1 0)] := by decide

theorem test_decode_writes_10_to_17 :
  [0x010, 0x011, 0x012, 0x013, 0x014, 0x015, 0x016, 0x017].map (decodeTableWord 16) =
    [some (.wrClickedQueueFrontB2 0), some (.wrClickedQueueFrontB3 0), some (.wrClickedQueueBackB0 0), some
     (.wrClickedQueueBackB1 0), some (.wrClickedQueueBackB2 0), some (.wrClickedQueueBackB3 0), some (.wrLedBrightness
     0), some (.wrLedPulseGranularity 0)] := by decide

theorem test_decode_writes_18_to_1F :
  [0x018, 0x019, 0x01A, 0x01B, 0x01C, 0x01D, 0x01E, 0x01F].map (decodeTableWord 16) =
    [some (.wrLedPulseCycleTimeB0 0), some (.wrLedPulseCycleTimeB1 0), some (.wrLedPulseOffTimeB0 0), some
     (.wrLedPulseOffTimeB1 0), some (.wrI2cAddress 0), some (.wrId 0), some (.wrFirmwareMinor 0), some
     (.wrFirmwareMajor 0)] := by decide

/-- The boundaries of the out-of-range rows (R80, R82). -/
theorem test_decode_out_of_range_reads :
    [0x120, 0x13F, 0x140, 0x17F, 0x180, 0x1FF].map (decodeTableWord 16) =
      [some (.rdOor2 0x20), some (.rdOor2 0x3F), some (.rdOor1 0x40), some (.rdOor1 0x7F), some (.rdOor0 0x80),
       some (.rdOor0 0xFF)] := by decide

theorem test_decode_out_of_range_writes :
    [0x020, 0x03F, 0x040, 0x07F, 0x080, 0x0FF].map (decodeTableWord 16) =
      [some (.wrOor2 0x20 0), some (.wrOor2 0x3F 0), some (.wrOor1 0x40 0), some (.wrOor1 0x7F 0),
       some (.wrOor0 0x80 0), some (.wrOor0 0xFF 0)] := by decide

theorem test_decode_events_and_reset :
    decodeTableWord 8 0 = some (.evPress 0) ∧ decodeTableWord 8 1 = some (.evClick 0) ∧
    decode .evt [0x01, 0x78, 0x56, 0x34, 0x12] = .ok (.evClick 0x12345678) ∧
    decodeTableWord 0 0 = some (.reset { cfg0 with i2cAddress := 0 }) := by decide

theorem test_decode_operand_bytes :
    decode .req [0x16, 0x00, 0x80] = .ok (.wrLedBrightness 0x80) ∧
    decode .rst [0x0A, 0x00, 0x03, 0xFF, 0x01, 0xE8, 0x03, 0xF4, 0x01, 0x5F] =
      .ok (.reset { debounce := 10, pressedEnable := true, clickedEnable := true, ledBrightness := 0xFF,
                    ledPulseGranularity := 1, ledPulseCycleTime := 1000, ledPulseOffTime := 500,
                    i2cAddress := 0x5F }) := by decide

/-- Bytes that are no operation are refused by name. -/
theorem test_decode_refuses :
    decode .req [0x16] = .error .tooShort ∧ decode .req [0x16, 0x00] = .error .tooShort ∧
    decode .req [0x16, 0x01, 0x80] = .error .trailingBytes ∧ decode .evt [0x00] = .error .tooShort ∧
    decode .rst [] = .error .tooShort := by decide

/-- `withFetchWord` presents exactly the row's operation. -/
theorem test_withFetchWord :
    (after (step (State.reset.withFetchWord 16 0x104))).rspData = [0x40] ∧
    (after (step (State.reset.withFetchWord 24 0x800016))).blk.ledBrightness = 0x80 ∧
    (after (step (State.reset.withFetchWord 8 1))).blk.hasBeenClicked = true := by decide

/-! ### Reads (95_test_vectors.md, RD1 to RD18) -/

theorem test_RD1 : (rd State.reset 0x00 5).rspData = [0x00, 0x00, 0x00, 0x00, 0x40] := by decide

theorem test_RD3 : (rd State.reset 0x05 4).rspData.length = 4 ∧ (rd State.reset 0x05 4).rspErr = Config.ok :=
  ⟨rfl, rfl⟩

theorem test_RD4 :
    (rd State.reset 0x1C 4).rspData = [0x5F, Config.deviceId, Config.fwMinor, Config.fwMajor] := rfl

theorem test_RD5 : (rd sample 0x01 2).rspData = [0xF4, 0x01] ∧
    (rd sample 0x16 6).rspData = [0x7F, 0x03, 0xCD, 0xAB, 0x02, 0x01] := by decide

theorem test_RD6 : (rd (ev State.reset 0 0x11223344) 0x05 8).rspData =
    [0x44, 0x33, 0x22, 0x11, 0x44, 0x33, 0x22, 0x11] := by decide

theorem test_RD7 : (rd (ev State.reset 0 0x11223344) 0x07 3).rspData = [0x22, 0x11, 0x44] := by decide

theorem test_RD9 : (rd sample 0x0D 9).rspData = [0x00, 0x06, 0x00, 0x00, 0x00, 0x05, 0x00, 0x00, 0x00] := by decide

theorem test_RD15 : (rd sample 0x20 1).rspErr = Config.errRange ∧ (rd sample 0xFF 255).rspErr = Config.errRange ∧
    (rd sample 0x00 33).rspData = [] ∧ (rd sample 0x21 0).rspErr = Config.errRange ∧
    (rd sample 0x20 0).rspErr = Config.ok := by decide

theorem test_RD18 : (rd sample 0x00 1).rspData = [0x03] ∧ (rd sample 0x00 1).blk = sample.blk ∧
    (rd sample 0x03 1).rspData = [0x05] ∧ (rd sample 0x03 1).blk = sample.blk := by decide

/-! ### Writes (95_test_vectors.md, WR1 to WR26) -/

theorem test_WR1 : (wr State.reset 0x01 [0xF4, 0x01]).blk.debounce = 0x01F4 := by decide

theorem test_WR2_WR3 : (wr sample 0x01 [0x2C]).blk.debounce = 0x012C ∧ (wr sample 0x02 [0x00]).blk.debounce = 0x00F4 :=
  by decide

theorem test_WR4_WR5_WR6 : flags (wr sample 0x00 [0x00]) = [true, false, true, true, false] ∧
    flags (wr sample 0x00 [0xFF]) = flags sample ∧
    flags (wr State.reset 0x00 [0x03]) = [false, false, false, false, false] := by decide

theorem test_WR7_WR8 : flags (wr sample 0x03 [0x01]) = [true, true, false, true, false] ∧
    flags (wr sample 0x03 [0x06]) = [true, true, true, false, true] := by decide

theorem test_WR9_WR10 : flags (wr State.reset 0x03 [0x07]) = [false, false, false, true, true] ∧
    flags (wr sample 0x03 [0xFB]) = [true, true, false, true, true] := by decide

theorem test_WR11_WR12_WR13 : (wr sample 0x04 [0x80]).blk.queueP.contents = [2] ∧
    (wr sample 0x04 [0x7F]).blk = sample.blk ∧ (wr sample 0x04 [0xFF]).blk.queueP.contents = [2] := by decide

theorem test_WR15 : (wr sample 0x0D [0x80]).blk.queueC.contents = [6] ∧
    (wr sample 0x0D [0x80]).blk.queueP = sample.blk.queueP := by decide

theorem test_WR16 :
    (wr sample 0x04 [0x80, 0, 0, 0, 0, 0, 0, 0, 0, 0x80]).blk.queueP.contents = [2] ∧
    (wr sample 0x04 [0x80, 0, 0, 0, 0, 0, 0, 0, 0, 0x80]).blk.queueC.contents = [6] := by decide

theorem test_WR17_WR18 : (wr sample 0x05 [1, 2, 3, 4, 5, 6, 7, 8]).blk = sample.blk ∧
    (wr sample 0x0E [1, 2, 3, 4, 5, 6, 7, 8]).blk = sample.blk ∧ (wr sample 0x1D [0xAA, 0xBB, 0xCC]).blk = sample.blk :=
  by decide

theorem test_WR21_WR22 : (wr sample 0x1C [0x30, 0xAA, 0xBB, 0xCC]).i2cAddrOut = 0x30 ∧
    (wr sample 0x1C [0x30, 0xAA, 0xBB, 0xCC, 0xDD]).i2cAddrOut = 0x5F ∧
    (wr sample 0x1C [0x30, 0xAA, 0xBB, 0xCC, 0xDD]).rspErr = Config.errRange := by decide

theorem test_WR23 : (wr sample 0x03 (0x00 :: 0x80 :: List.replicate 28 0x00)).blk = sample.blk := rfl

theorem test_WR25 : (wr State.reset 0x16 [0x80, 0x02, 0xE8, 0x03, 0xF4, 0x01]).blk =
    { State.reset.blk with ledBrightness := 0x80, ledPulseGranularity := 0x02, ledPulseCycleTime := 0x03E8,
                           ledPulseOffTime := 0x01F4 } := by decide

theorem test_WR26 : (wr sample 0x00 [0x00, 0x64, 0x00, 0x03, 0x80]).blk =
    { sample.blk with hasBeenClicked := false, debounce := 0x0064, clickedEnable := true, status := false,
                      queueP := queueOf [1, 2] |>.pop } := by decide

/-! ### Queues, events, ordering, reset (95_test_vectors.md Q, EV, OR, RS) -/

theorem test_Q3_Q4 : (queueOf [1, 2, 3, 4, 5, 6, 7, 8, 9, 10, 11, 12, 13, 14, 15]).isFull = true ∧
    (queueOf [1, 2, 3, 4, 5, 6, 7, 8, 9, 10, 11, 12, 13, 14, 15]).head = 0 ∧
    (queueOf [1, 2, 3, 4, 5, 6, 7, 8, 9, 10, 11, 12, 13, 14, 15, 16]).head = 1 ∧
    (queueOf [1, 2, 3, 4, 5, 6, 7, 8, 9, 10, 11, 12, 13, 14, 15, 16]).tail = 1 := by decide

/-- Q5 with 20 pushes instead of 40: `[6..20]`, `head` = 20 mod 15. -/
theorem test_Q5 : (queueOf (List.range 21).tail).contents.head? = some 6 ∧ (queueOf (List.range 21).tail).head = 5 := by
  decide

theorem test_Q6_Q7_Q8 : ((queueOf [100]).popped = some 100 ∧ (queueOf [100]).pop.isEmpty = true) ∧
    Queue.empty.popped = none ∧ Queue.empty.pop = Queue.empty ∧
    (queueOf ((List.range 17).tail)).pop.tail = 2 := by decide

theorem test_Q9_Q11 :
    ({ buf := (Vector.replicate 15 0).set 14 77, head := 0, tail := 14, full := false } : Queue).front 9 = 77 ∧
    ({ buf := (Vector.replicate 15 0).set 14 77, head := 0, tail := 14, full := false } : Queue).back 9 = 77 ∧
    (queueOf [100, 200, 300]).pop.front 9 = 300 ∧ (queueOf [100, 200, 300]).pop.back 9 = 200 := by decide

/-- EV1 to EV4, EV8. -/
theorem test_EV_press : flags (ev State.reset 0 10) = [true, false, false, false, false] ∧
    flags (ev (flagged false false false true false) 0 10) = [true, false, true, true, false] ∧
    flags (ev (flagged false false false false true) 0 10) = [true, false, false, false, true] ∧
    flags (ev (flagged false false true false false) 0 10) = [true, false, true, false, false] ∧
    (ev sample 0 20).blk.queueP.contents = [1, 2, 20] := by decide

/-- EV5 to EV7. -/
theorem test_EV_click : flags (ev (flagged true false false false false) 1 30) = [false, true, false, false, false] ∧
    flags (ev (flagged true false false false true) 1 30) = [false, true, true, false, true] ∧
    flags (ev (flagged false true true true true) 1 30) = [false, true, true, true, true] ∧
    (ev sample 1 30).blk.queueC.contents = [5, 6, 30] := by decide

/-- A request and an event presented together, taken in the order given. -/
def together (s : State) (r : Request) (t : Timestamp) (eventFirst : Bool) : State :=
  after (step (after (step (s.presenting { rst := none, req := some r, ev := some ⟨0, t⟩, eventFirst := eventFirst }))))

theorem test_OR1 : (together sample (.write 0x03 [0x01]) 9 false).blk.status = true ∧
    (together sample (.write 0x03 [0x01]) 9 true).blk.status = false := by decide

/-- OR2, with a full queue `[1..15]`. -/
theorem test_OR2 :
    (together (withBlk fun b => { b with queueP := queueOf (List.range 16).tail }) (.write 0x04 [0x80]) 16
      false).blk.queueP.contents.map BitVec.toNat = (List.range 17).drop 2 ∧
    (together (withBlk fun b => { b with queueP := queueOf (List.range 16).tail }) (.write 0x04 [0x80]) 16
      true).blk.queueP.contents.map BitVec.toNat = (List.range 17).drop 3 := by decide

/-- The byte-granular mixture of OR3: the status byte before the push, the views after it. -/
theorem test_OR3_granular :
    let s1 := after (step ({ State.reset with xactAtomic := false }.presenting (.ofRequest (.read 0x04 2))))
    let s2 := after (step { s1 with inbox := [{ Presentation.ofEvent ⟨0, 7⟩ with eventFirst := true }] })
    (after (step s2)).rspData = [0x40, 0x07] ∧ (after (step s2)).serving = [] := by decide

/-- `CFG` of RS2. -/
def cfgRS2 : Cfg :=
  { debounce := 10, pressedEnable := true, clickedEnable := true, ledBrightness := 0xFF, ledPulseGranularity := 1,
    ledPulseCycleTime := 1000, ledPulseOffTime := 500, i2cAddress := 0x5F }

/-- RS2: the block after `RESET(CFG)`. -/
theorem test_RS2 :
    (after (exec (.reset cfgRS2) sample)).blk.ledPulseCycleTime = 0x03E8 ∧
    flags (after (exec (.reset cfgRS2) sample)) = [false, false, false, true, true] ∧
    (after (exec (.reset cfg0) sample)).blk.queueP.isEmpty = true := by decide

/-! ### Witnesses: a concrete input that meets the hypotheses of each statement that has any -/

theorem test_witness_StepRunsDecodedOperation :
    ({ State.reset with inbox := [presentationOf .req [0x04, 0x01]] } : State).serving = [] ∧
    decode .req [0x04, 0x01] = .ok .rdPressedQueueStatus ∧
    decode .req [0x20, 0x00, 0x55] = .ok (.wrOor2 0x20 0x55) ∧ decode .evt [0, 9, 0, 0, 0] = .ok (.evPress 9) ∧
    decode .rst [0, 0, 1, 0, 0, 0, 0, 0, 0, 0x5F] = .ok (.reset { cfg0 with pressedEnable := true }) := by decide

/-- A READ of 0x1F in service; presented: nothing, a further request, an event that goes second, an empty presentation. -/
def inService (inbox : List Presentation) : State :=
  { granular with serving := [{ rw := 1, addr := 0x1F, wdata := 0 }], inbox := inbox }

theorem test_witness_StepServesDecodedByte :
    (inService []).serving = { rw := 1, addr := 0x1F, wdata := 0 } :: [] ∧ (inService []).inbox = [] ∧
    ∀ p ∈ [Presentation.ofRequest (.write 0x00 [0]), .ofEvent ⟨0, 7⟩, .nothing],
      (inService [p]).inbox = p :: [] ∧ p.rst = none ∧ (p.ev = none ∨ p.eventFirst = false) := by decide

/-- What waits is served or taken later: the READ byte first, then the event, which is not lost. -/
theorem test_event_waits_for_the_byte :
    (after (step (inService [.ofEvent ⟨0, 7⟩]))).inbox = [.ofEvent ⟨0, 7⟩] ∧
    (after (step (after (step (inService [.ofEvent ⟨0, 7⟩]))))).blk.queueP.contents = [1, 2, 7] := by decide

theorem test_witness_StepIdlesWhenNothingIsPresented : State.reset.inbox = [] ∧ State.reset.serving = [] := by decide

theorem test_witness_DecodeOfEncodeIsTheInstruction : ∀ i ∈ [Instr.rdOor0 0xFF, .rdOor1 0x40, .rdOor2 0x3F,
    .wrOor0 0x80 7, .wrOor1 0x7F 7, .wrOor2 0x20 7, .wrInterruptConfig 0xFF, .evClick 0xFFFFFFFF, .reset cfg0],
    i.wellFormed = true := by decide

theorem test_witness_StepKeepsTheInvariant :
    (granular.presenting (.ofRequest (.read 0x00 32))).Inv ∧
    ∃ t, step (granular.presenting (.ofRequest (.read 0x00 32))) = .next t := ⟨by decide, _, rfl⟩

/-- The reject boundaries of RD12, RD14, RD15. -/
theorem test_witness_OutOfRangeRequestLeavesNoTrace :
    ∀ r ∈ [Request.read 0x1F 2, .read 0x20 1, .read 0x21 0, .read 0xFF 255, .write 0x1F [1, 2], .write 0x20 [1]],
    Config.mapSize < r.offset.toNat + r.len := by decide

/-- Also for `LayoutDoesNotDependOnTheRequest`, first clause: 0x04 and 0x09 read by two requests. -/
theorem test_witness_AtomicReadAnswersTheMap : sample.blk.Wf ∧ sample.xactAtomic = true ∧
    (0x00#8).toNat + 32 ≤ Config.mapSize ∧ (0x20#8).toNat + 0 ≤ Config.mapSize ∧ (0x1F#8).toNat + 1 ≤ Config.mapSize ∧
    sample.blk.mapByte ((0x00#8).toNat + 4) = some 0x00 ∧ sample.blk.mapByte ((0x05#8).toNat + 4) = some 0x01 :=
  by decide

theorem test_witness_AtomicWriteAppliesEveryByte : sample.xactAtomic = true ∧
    (0x1C#8).toNat + [0x30#8, 0xAA, 0xBB, 0xCC].length ≤ Config.mapSize ∧
    (0x20#8).toNat + ([] : List Byte).length ≤ Config.mapSize := by decide

theorem test_witness_ByteGranularServiceEqualsAtomic : granular.xactAtomic = false ∧
    (Request.read 0x00 32).offset.toNat + (Request.read 0x00 32).len ≤ Config.mapSize ∧
    (Request.write 0x20 []).offset.toNat + (Request.write 0x20 []).len ≤ Config.mapSize := by decide

/-- Also for `WriteOfZerosOverTheWholeMap`. -/
theorem test_witness_BothOrdersOfRequestAndEventAreRuns : sample.xactAtomic = true := rfl

/-- Third clause: an event that goes first between two bytes, alone and with a further request. -/
theorem test_witness_BothOrders_between_bytes :
    ∀ p ∈ [{ Presentation.ofEvent ⟨0, 7⟩ with eventFirst := true },
        { rst := none, req := some (.read 0x00 1), ev := some ⟨0, 7⟩, eventFirst := true }],
      (inService [p]).serving ≠ [] ∧ (inService [p]).inbox = p :: [] ∧ p.rst = none ∧ p.ev = some ⟨0, 7⟩ ∧
        p.eventFirst = true := by decide

theorem test_witness_ResetHasPriority :
    (sample.presenting { rst := some cfg0, req := some (.read 0 1), ev := none, eventFirst := true }).inbox =
      { rst := some cfg0, req := some (.read 0 1), ev := none, eventFirst := true } :: [] := by decide

/-- Nothing presented, and a READ presented, each with a READ byte in service. -/
theorem test_witness_ReadRequestsLeaveTheBlockUnchanged :
    (∀ b ∈ (inService []).serving, b.rw = 1#1) ∧ (inService []).inbox.head? = none ∧
    (∃ t, step (inService []) = .next t) ∧
    (inService [.ofRequest (.read 0x00 2)]).inbox.head? = some (.ofRequest (.read 0x00 2)) ∧
    (Presentation.ofRequest (.read 0x00 2)).rst = none ∧ (Presentation.ofRequest (.read 0x00 2)).ev = none ∧
    (Presentation.ofRequest (.read 0x00 2)).req = some (.read 0x00 2) ∧
    ∃ t, step (inService [.ofRequest (.read 0x00 2)]) = .next t :=
  ⟨by decide, rfl, ⟨_, rfl⟩, rfl, rfl, rfl, rfl, _, rfl⟩

theorem test_witness_LayoutDoesNotDependOnTheRequest :
    (∃ t, step (sample.presenting (.ofRequest (.read 0x00 16))) = .next t) ∧
    (∃ t, step (sample.presenting (.ofRequest (.read 0x09 1))) = .next t) ∧ sample.blk.mapByte 0x09 ≠ none ∧
    (0x1E#8).toNat + ([0xFF#8].length + 1) ≤ Config.mapSize := ⟨⟨_, rfl⟩, ⟨_, rfl⟩, by decide, by decide⟩

theorem test_witness_MultiByteFieldsAreLeastSignificantFirst : sample.blk.Wf ∧ 0x01F4 = sample.blk.debounce.toNat ∧
    (sample.blk.queueP.contents.getLast?.map BitVec.toNat) = some 2 ∧
    (sample.blk.queueP.contents.head?.map BitVec.toNat) = some 1 ∧
    (sample.blk.queueC.contents.getLast?.map BitVec.toNat) = some 6 ∧
    (sample.blk.queueC.contents.head?.map BitVec.toNat) = some 5 ∧
    0xABCD = sample.blk.ledPulseCycleTime.toNat ∧ 0x0102 = sample.blk.ledPulseOffTime.toNat := by decide

/-- Second clause, at its ends: byte 0 of 0x01 and byte 1 of 0x1A. -/
theorem test_witness_MultiByteFields_written :
    (wr sample 0x01 [0x2C]).blk.debounce.toNat % 256 = 0x2C ∧ (wr sample 0x01 [0x2C]).blk.debounce.toNat / 256 = 0x01 ∧
    (wr sample 0x1B [0x2C]).blk.ledPulseOffTime = 0x2C02 ∧ (wr sample 0x18 [0x2C]).blk.ledPulseCycleTime = 0xAB2C := by
  decide

theorem test_witness_WrittenBytesCommute : (0x01#8) ≠ 0x02#8 ∧ (0x00#8).toNat < Config.mapSize ∧
    (0x1F#8).toNat < Config.mapSize ∧ (∃ t, exec (decodeKey (keyOf 0#1 0x01) 0x2C) sample = .next t) ∧
    ∃ t, exec (decodeKey (keyOf 0#1 0x02) 0x00) sample = .next t :=
  ⟨by decide, by decide, by decide, ⟨_, rfl⟩, _, rfl⟩

theorem test_witness_MapRightAfterReset : sample.xactAtomic = true ∧ ∃ t, exec (.reset cfg0) sample = .next t :=
  ⟨rfl, _, rfl⟩

theorem test_witness_BlockDependsOnTheBlockAlone : sample.blk = granular.blk ∧
    (∃ t, exec (.wrPressedQueueStatus 0x80) sample = .next t) ∧ (∃ t, exec (.wrPressedQueueStatus 0x80) granular = .next t) ∧
    ∀ cfg, Instr.wrPressedQueueStatus 0x80 ≠ .reset cfg :=
  ⟨rfl, ⟨_, rfl⟩, ⟨_, rfl⟩, fun _ h => by cases h⟩

theorem test_witness_QueuesRefineLists : sample.blk.Wf ∧ (∃ t, exec (.evPress 9) sample = .next t) ∧
    (∃ t, exec (.wrPressedQueueStatus 0x80) sample = .next t) ∧ ∃ t, exec (.reset cfg0) sample = .next t :=
  ⟨by decide, ⟨_, rfl⟩, ⟨_, rfl⟩, _, rfl⟩

theorem test_witness_QueueIsASlidingWindow : Queue.empty.Wf ∧ (queueOf [1, 2, 3]).Wf ∧
    Config.capacity ≤ ((List.range 15).map (BitVec.ofNat 32)).length ∧
    Config.capacity ≤ ((List.range 40).map (BitVec.ofNat 32)).length := by decide

/-- Also for `FullAndEmptyTellTheSize` and the first clause of `FrontIsNewestAndBackIsOldest`: an empty, a full and a middle queue. -/
theorem test_witness_QueueIsFirstInFirstOut : Queue.empty.Wf ∧ Queue.empty.isEmpty = true ∧
    (queueOf (List.range 15)).Wf ∧ (queueOf (List.range 15)).isFull = true ∧ (queueOf [1]).Wf ∧
    (queueOf [1]).isEmpty = false := by decide

theorem test_witness_QueueIsClearedOnlyByPopsOrReset : sample.blk.Wf ∧ (0x80#8).getLsbD 7 = true ∧
    (after (exec (.wrPressedQueueStatus 0x80) sample)).blk.queueP.size < sample.blk.queueP.size ∧
    (after (exec (.wrClickedQueueStatus 0x80) sample)).blk.queueC.size < sample.blk.queueC.size ∧
    (after (exec (.reset cfg0) sample)).blk.queueC.size < sample.blk.queueC.size := by decide

theorem test_witness_QueuesAreIndependent : (∃ t, exec (.rdButtonStatus) sample = .next t) ∧
    (∃ t, exec (.evClick 3) sample = .next t) ∧ (∃ t, exec (.evClick 3) State.reset = .next t) ∧
    (∀ v, Instr.evClick 3 ≠ .wrPressedQueueStatus v) ∧ (∀ ts, Instr.rdButtonStatus ≠ .evClick ts) :=
  ⟨⟨_, rfl⟩, ⟨_, rfl⟩, ⟨_, rfl⟩, (fun _ h => by cases h), (fun _ h => by cases h)⟩

/-- Both sides of R173 are met: an enabled event and a disabled one. -/
theorem test_witness_LatchIsSetOnlyByEnabledEvents : (flagged false false false true false).blk.status = false ∧
    (after (exec (.evPress 1) (flagged false false false true false))).blk.status = true ∧
    (after (exec (.evClick 1) (flagged false false false true false))).blk.status = false := by decide

/-- Both sides of R174 are met: an acknowledge and a write that keeps the latch. -/
theorem test_witness_LatchIsClearedOnlyByAcknowledge : sample.blk.status = true ∧
    (after (exec (.wrInterruptConfig 0x01) sample)).blk.status = false ∧
    (after (exec (.wrInterruptConfig 0x05) sample)).blk.status = true := by decide

theorem test_witness_LatchRisesOnlyInAnEventStep :
    ((flagged false false false true true).presenting (.ofEvent ⟨0, 1⟩)).blk.status = false ∧
    (ev (flagged false false false true true) 0 1).blk.status = true ∧
    (ev (flagged false false false true true) 1 1).blk.status = true := by decide

theorem test_witness_OneLatchIsTheOrOfTwo : sample.blk.status = (true || false) ∧
    ∃ t, exec (.evClick 1) sample = .next t := ⟨rfl, _, rfl⟩

/-- The list of the statement, `sample` with two entries, a queue of one; the first and the last byte of a view. -/
theorem test_witness_ReadPressedViews :
    (∀ x ∈ [(Instr.rdPressedQueueFrontB0, Instr.rdPressedQueueBackB0, 0),
        (.rdPressedQueueFrontB3, .rdPressedQueueBackB3, 3)],
      x ∈ [(Instr.rdPressedQueueFrontB0, Instr.rdPressedQueueBackB0, 0),
        (.rdPressedQueueFrontB1, .rdPressedQueueBackB1, 1), (.rdPressedQueueFrontB2, .rdPressedQueueBackB2, 2),
        (.rdPressedQueueFrontB3, .rdPressedQueueBackB3, 3)]) ∧
    sample.blk.queueP.Wf ∧ sample.blk.queueP.contents.getLast? = some 2 ∧ sample.blk.queueP.contents.head? = some 1 ∧
    sample.blk.queueP.popped = some 1 ∧ (queueOf [7]).Wf ∧ (queueOf [7]).size = 1 := by decide

theorem test_witness_ReadClickedViews :
    (∀ x ∈ [(Instr.rdClickedQueueFrontB0, Instr.rdClickedQueueBackB0, 0),
        (.rdClickedQueueFrontB3, .rdClickedQueueBackB3, 3)],
      x ∈ [(Instr.rdClickedQueueFrontB0, Instr.rdClickedQueueBackB0, 0),
        (.rdClickedQueueFrontB1, .rdClickedQueueBackB1, 1), (.rdClickedQueueFrontB2, .rdClickedQueueBackB2, 2),
        (.rdClickedQueueFrontB3, .rdClickedQueueBackB3, 3)]) ∧
    sample.blk.queueC.Wf ∧ sample.blk.queueC.contents.getLast? = some 6 ∧
    sample.blk.queueC.contents.head? = some 5 := by decide

/-- Second clause: both queues empty, and the ends of the two lists. -/
theorem test_witness_FrontIsNewestAndBackIsOldest :
    State.reset.blk.queueP.isEmpty = true ∧ State.reset.blk.queueC.isEmpty = true ∧
    (Instr.rdPressedQueueBackB3, 3) ∈ [(Instr.rdPressedQueueFrontB0, 0), (.rdPressedQueueFrontB1, 1),
      (.rdPressedQueueFrontB2, 2), (.rdPressedQueueFrontB3, 3), (.rdPressedQueueBackB0, 0), (.rdPressedQueueBackB1, 1),
      (.rdPressedQueueBackB2, 2), (.rdPressedQueueBackB3, 3)] ∧
    (Instr.rdClickedQueueFrontB0, 0) ∈ [(Instr.rdClickedQueueFrontB0, 0), (.rdClickedQueueFrontB1, 1),
      (.rdClickedQueueFrontB2, 2), (.rdClickedQueueFrontB3, 3), (.rdClickedQueueBackB0, 0), (.rdClickedQueueBackB1, 1),
      (.rdClickedQueueBackB2, 2), (.rdClickedQueueBackB3, 3)] := by decide

/-- The boundaries of the out-of-range rows. -/
theorem test_witness_OutOfRangeRowsReject : ∀ a ∈ [0x20#8, 0x3F, 0x40, 0x7F, 0x80, 0xFF], Config.mapSize ≤ a.toNat := by
  decide

theorem test_witness_DebounceTimeIsMixedOnlyBetweenBytes : sample.xactAtomic = true ∧ granular.xactAtomic = false := ⟨rfl, rfl⟩

theorem test_witness_WriteQueueStatusPopsOne : sample.blk.queueP.Wf ∧ sample.blk.queueC.Wf ∧
    (0x80#8).getLsbD 7 = true ∧ (0x7F#8).getLsbD 7 = false := by decide

theorem test_witness_WriteToViewsIsIgnored : ∀ x ∈ [((0x05 : Nat), Instr.wrPressedQueueFrontB0 1),
      (0x0C, .wrPressedQueueBackB3 1), (0x0E, .wrClickedQueueFrontB0 1), (0x15, .wrClickedQueueBackB3 1)],
    x ∈ [((0x05 : Nat), Instr.wrPressedQueueFrontB0 1), (0x06, .wrPressedQueueFrontB1 1),
      (0x07, .wrPressedQueueFrontB2 1), (0x08, .wrPressedQueueFrontB3 1), (0x09, .wrPressedQueueBackB0 1),
      (0x0A, .wrPressedQueueBackB1 1), (0x0B, .wrPressedQueueBackB2 1), (0x0C, .wrPressedQueueBackB3 1),
      (0x0E, .wrClickedQueueFrontB0 1), (0x0F, .wrClickedQueueFrontB1 1), (0x10, .wrClickedQueueFrontB2 1),
      (0x11, .wrClickedQueueFrontB3 1), (0x12, .wrClickedQueueBackB0 1), (0x13, .wrClickedQueueBackB1 1),
      (0x14, .wrClickedQueueBackB2 1), (0x15, .wrClickedQueueBackB3 1)] := by decide

theorem test_witness_ReservedBitsReadZeroAndAreDiscarded : (0xFE#8) &&& 0x03 = 0x02#8 &&& 0x03 ∧
    (0xFB#8) &&& 0x07 = 0x03#8 &&& 0x07 ∧ (0x9F#8) &&& 0xE0 = 0x80#8 &&& 0xE0 := by decide

/-- Every boundary of the three ranges of read-only addresses (R194), and bytes that differ in read-only bits. -/
theorem test_witness_ReadOnlyWritesAreNoException :
    (∀ a ∈ [0x05#8, 0x0C, 0x0E, 0x15, 0x1D, 0x1F],
      5 ≤ a.toNat ∧ a.toNat ≤ 12 ∨ 14 ≤ a.toNat ∧ a.toNat ≤ 21 ∨ 29 ≤ a.toNat ∧ a.toNat ≤ 31) ∧
    (0x03#8).getLsbD 1 = (0x02#8).getLsbD 1 ∧ (0xF8#8).getLsbD 2 = (0x00#8).getLsbD 2 ∧
    (0xFF#8).getLsbD 7 = (0x80#8).getLsbD 7 := by decide

/-- Both queues empty, in reset state and after a pop (WR14). -/
theorem test_witness_PopOfEmptyQueueIsNoException : (0x80#8).getLsbD 7 = true ∧
    State.reset.blk.queueP.isEmpty = true ∧ State.reset.blk.queueC.isEmpty = true ∧
    (queueOf [1]).pop.isEmpty = true := by decide

theorem test_witness_ReadOfEmptyViewIsNoException :
    (∀ a ∈ [0x05#8, 0x0C], 5 ≤ a.toNat ∧ a.toNat ≤ 12 ∧ State.reset.blk.queueP.isEmpty = true) ∧
    ∀ a ∈ [0x0E#8, 0x15], 14 ≤ a.toNat ∧ a.toNat ≤ 21 ∧ State.reset.blk.queueC.isEmpty = true := by decide

end Sys2Proof.Tests
end

section
/-! SUPPORT. Family 20_memory.md: every multi-byte field of the map is transferred least significant byte first
(20_memory.md R53). The bytes of a cell and of a Timestamp are tied to the weights of `natByte` and `storeByte`, the
ends of `contents` to `front` and `back`, and the rows of the two kinds of field are read off once for each kind. -/

namespace Sys2Proof.Machine

/-! ### Bytes of a word, by weight (20_memory.md R53, R54) -/

theorem natByte_eq_ofNat (w j : Nat) : natByte w j = BitVec.ofNat 8 (w / 256 ^ j) := by
  apply BitVec.eq_of_toNat_eq
  simp [natByte]

theorem leByte_eq_natByte (w : Timestamp) (j : Nat) : leByte w j = natByte w.toNat j := by
  apply BitVec.eq_of_toNat_eq
  have weight : (2 : Nat) ^ (8 * j) = 256 ^ j := by rw [Nat.pow_mul]
  simp [leByte, natByte, Nat.shiftRight_eq_div_pow, weight]

theorem lowByte_eq_natByte (w : Half) : lowByte w = natByte w.toNat 0 := by
  apply BitVec.eq_of_toNat_eq
  simp [lowByte, natByte]

theorem highByte_eq_natByte (w : Half) : highByte w = natByte w.toNat 1 := by
  apply BitVec.eq_of_toNat_eq
  simp [highByte, natByte, Nat.shiftRight_eq_div_pow]

theorem halfOf_toNat (high low : Byte) : (halfOf high low).toNat = high.toNat * 256 + low.toNat := by
  have hlow := low.isLt
  rw [halfOf, BitVec.toNat_append, ← Nat.shiftLeft_add_eq_or_of_lt hlow, Nat.shiftLeft_eq]

theorem setLowByte_toNat (w : Half) (v : Byte) : (setLowByte w v).toNat = w.toNat / 256 * 256 + v.toNat := by
  have hw := w.isLt
  simp only [setLowByte, halfOf_toNat, highByte_eq_natByte, natByte, BitVec.toNat_ofNat]
  omega

theorem setHighByte_toNat (w : Half) (v : Byte) : (setHighByte w v).toNat = v.toNat * 256 + w.toNat % 256 := by
  simp [setHighByte, halfOf_toNat, lowByte_eq_natByte, natByte]

theorem setLowByte_eq_storeByte (w : Half) (v : Byte) : setLowByte w v = storeByte w 0 v := by
  simp [storeByte, ← setLowByte_toNat]

theorem setHighByte_eq_storeByte (w : Half) (v : Byte) : setHighByte w v = storeByte w 1 v := by
  simp [storeByte, ← setHighByte_toNat]

/-- Storing byte `j` of a 16-bit cell makes it the written byte. -/
theorem storeByte_same (w : Half) (v : Byte) {j : Nat} (hj : j < 2) :
    (storeByte w j v).toNat / 256 ^ j % 256 = v.toNat := by
  have hv := v.isLt
  match j, hj with
  | 0, _ =>
    rw [← setLowByte_eq_storeByte, setLowByte_toNat]
    omega
  | 1, _ =>
    rw [← setHighByte_eq_storeByte, setHighByte_toNat]
    omega

/-- Storing byte `j` of a 16-bit cell leaves the other byte. -/
theorem storeByte_other (w : Half) (v : Byte) {j : Nat} (hj : j < 2) :
    (storeByte w j v).toNat / 256 ^ (1 - j) % 256 = w.toNat / 256 ^ (1 - j) % 256 := by
  have hv := v.isLt
  match j, hj with
  | 0, _ =>
    rw [← setLowByte_eq_storeByte, setLowByte_toNat]
    omega
  | 1, _ =>
    rw [← setHighByte_eq_storeByte, setHighByte_toNat]
    omega

/-! ### The ends of a queue's contents (10_state.md R34; 40_queue.md R94, R95) -/

theorem Queue.isEmpty_iff_size_eq_zero (q : Queue) : q.isEmpty = true ↔ q.size = 0 := by
  have hh := q.head.isLt
  have ht := q.tail.isLt
  simp only [Queue.isEmpty, Queue.size, Config.capacity] at *
  cases q.full
  · simp [Fin.ext_iff]
    omega
  · simp

theorem Queue.isEmpty_eq_false_iff_size_pos (q : Queue) : q.isEmpty = false ↔ 0 < q.size := by
  rw [Nat.pos_iff_ne_zero, Ne, ← q.isEmpty_iff_size_eq_zero, Bool.not_eq_true]

/-- R33, R94: the slot of the newest entry, counted from `tail`, is the one before `head`. -/
theorem Queue.newest_index {q : Queue} (hwf : q.Wf) (hne : q.isEmpty = false) :
    (q.tail.val + (q.size - 1)) % Config.capacity = (decIndex q.head).val := by
  have hh := q.head.isLt
  have ht := q.tail.isLt
  have hpos := q.isEmpty_eq_false_iff_size_pos.1 hne
  rw [decIndex_val]
  simp only [Queue.size, Config.capacity] at *
  cases hf : q.full with
  | true => simp [hwf hf]
  | false =>
    simp only [hf] at *
    simp at *
    omega

theorem Queue.contents_head? {q : Queue} (hne : q.isEmpty = false) (t : Timestamp) :
    q.contents.head? = some (q.back t) := by
  have hpos : 0 < q.contents.length := by simpa using q.isEmpty_eq_false_iff_size_pos.1 hne
  rw [List.head?_eq_getElem?, List.getElem?_eq_getElem hpos, Queue.contents_getElem, Queue.back_of_not_isEmpty hne]
  simp [Nat.mod_eq_of_lt q.tail.isLt]

theorem Queue.contents_getLast? {q : Queue} (hwf : q.Wf) (hne : q.isEmpty = false) (t : Timestamp) :
    q.contents.getLast? = some (q.front t) := by
  have hpos := q.isEmpty_eq_false_iff_size_pos.1 hne
  have hlast : q.contents.length - 1 < q.contents.length := by simpa using hpos
  rw [List.getLast?_eq_getElem?, List.getElem?_eq_getElem hlast, Queue.contents_getElem,
    Queue.front_of_not_isEmpty hne]
  simp only [Queue.contents_length, Queue.newest_index hwf hne]

theorem Queue.isEmpty_eq_false_of_contents_ne_nil {q : Queue} (h : q.contents ≠ []) : q.isEmpty = false := by
  rw [Queue.isEmpty_eq_false_iff_size_pos, ← Queue.contents_length]
  exact List.length_pos_iff.2 h

/-- A queue whose contents end in `w` holds an entry, and `front` is `w` whatever is drawn (R94). -/
theorem Queue.front_of_getLast? {q : Queue} (hwf : q.Wf) {w : Timestamp} (hw : q.contents.getLast? = some w) :
    q.isEmpty = false ∧ ∀ t, q.front t = w := by
  have hne : q.isEmpty = false := Queue.isEmpty_eq_false_of_contents_ne_nil fun hnil => by simp [hnil] at hw
  refine ⟨hne, fun t => Option.some.inj ?_⟩
  rw [← Queue.contents_getLast? hwf hne, hw]

/-- A queue whose contents begin with `w` holds an entry, and `back` is `w` whatever is drawn (R95). -/
theorem Queue.back_of_head? {q : Queue} {w : Timestamp} (hw : q.contents.head? = some w) :
    q.isEmpty = false ∧ ∀ t, q.back t = w := by
  have hne : q.isEmpty = false := Queue.isEmpty_eq_false_of_contents_ne_nil fun hnil => by simp [hnil] at hw
  refine ⟨hne, fun t => Option.some.inj ?_⟩
  rw [← Queue.contents_head? hne, hw]

/-- A byte of a view of a queue that holds an entry is a byte of that entry, and nothing is drawn (41_bus_read.md R116). -/
theorem State.respondView_of_not_isEmpty {q : Queue} (hne : q.isEmpty = false) (s : State)
    (peek : Queue → Timestamp → Timestamp) (j : Nat) :
    s.respondView q peek j = s.respond (natByte (peek q s.nextAny).toNat j) := by
  simp [State.respondView, State.respond, State.drawn, hne, leByte_eq_natByte]

/-! ### The multi-byte fields and their rows (30_encoding.md R73; 41_bus_read.md R113 to R125; 42_bus_write.md R143 to
R154) -/

/-- The three stored fields of two bytes: base address and cell. -/
inductive HalfField : Nat → (Block → Half) → Prop
  | debounce : HalfField Map.buttonDebounceTime Block.debounce
  | cycleTime : HalfField Map.ledPulseCycleTime Block.ledPulseCycleTime
  | offTime : HalfField Map.ledPulseOffTime Block.ledPulseOffTime

/-- The four views: base address, queue, and which end of it is seen. -/
inductive ViewField : Nat → (Block → Queue) → (Queue → Timestamp → Timestamp) → Prop
  | pressedFront : ViewField Map.pressedQueueFront Block.queueP Queue.front
  | pressedBack : ViewField Map.pressedQueueBack Block.queueP Queue.back
  | clickedFront : ViewField Map.clickedQueueFront Block.queueC Queue.front
  | clickedBack : ViewField Map.clickedQueueBack Block.queueC Queue.back

/-- The READ of byte `j` of a stored field answers byte `j` of its cell. -/
theorem exec_read_half {base j : Nat} {cell : Block → Half} (hfield : HalfField base cell) (hj : j < 2) (s : State)
    (v : Byte) :
    exec (decodeKey (keyOf 1#1 (BitVec.ofNat 8 (base + j))) v) s =
      .next (s.respond (natByte (cell s.blk).toNat j)) := by
  rw [decodeKey_keyOf_one]
  match j, hj with
  | 0, _ =>
    rw [← lowByte_eq_natByte]
    cases hfield <;> rfl
  | 1, _ =>
    rw [← highByte_eq_natByte]
    cases hfield <;> rfl

/-- The WRITE of byte `j` of a stored field stores it as byte `j` of its cell. -/
theorem exec_write_half {base j : Nat} {cell : Block → Half} (hfield : HalfField base cell) (hj : j < 2) (s : State)
    (v : Byte) :
    ∃ t, exec (decodeKey (keyOf 0#1 (BitVec.ofNat 8 (base + j))) v) s = .next t ∧
      cell t.blk = storeByte (cell s.blk) j v := by
  rw [decodeKey_keyOf_zero]
  match j, hj with
  | 0, _ =>
    rw [← setLowByte_eq_storeByte]
    cases hfield <;> exact ⟨_, rfl, rfl⟩
  | 1, _ =>
    rw [← setHighByte_eq_storeByte]
    cases hfield <;> exact ⟨_, rfl, rfl⟩

/-- The READ of byte `j` of a view answers byte `j` of the end of the queue it sees. -/
theorem exec_read_view {base j : Nat} {queue : Block → Queue} {peek : Queue → Timestamp → Timestamp}
    (hfield : ViewField base queue peek) (hj : j < 4) (s : State) (v : Byte) :
    exec (decodeKey (keyOf 1#1 (BitVec.ofNat 8 (base + j))) v) s = .next (s.respondView (queue s.blk) peek j) := by
  rw [decodeKey_keyOf_one]
  match j, hj with
  | 0, _ | 1, _ | 2, _ | 3, _ => cases hfield <;> rfl

/-- The READ of byte `j` of a `front` view answers byte `j` of the newest entry. -/
theorem exec_read_newest {base j w : Nat} {queue : Block → Queue} (hfield : ViewField base queue Queue.front)
    (hj : j < 4) (s : State) (v : Byte) (hwf : (queue s.blk).Wf)
    (hw : (queue s.blk).contents.getLast?.map BitVec.toNat = some w) :
    exec (decodeKey (keyOf 1#1 (BitVec.ofNat 8 (base + j))) v) s = .next (s.respond (natByte w j)) := by
  obtain ⟨entry, hentry, rfl⟩ := Option.map_eq_some_iff.1 hw
  obtain ⟨hne, hfront⟩ := Queue.front_of_getLast? hwf hentry
  rw [exec_read_view hfield hj, State.respondView_of_not_isEmpty hne, hfront]

/-- The READ of byte `j` of a `back` view answers byte `j` of the oldest entry. -/
theorem exec_read_oldest {base j w : Nat} {queue : Block → Queue} (hfield : ViewField base queue Queue.back)
    (hj : j < 4) (s : State) (v : Byte) (hw : (queue s.blk).contents.head?.map BitVec.toNat = some w) :
    exec (decodeKey (keyOf 1#1 (BitVec.ofNat 8 (base + j))) v) s = .next (s.respond (natByte w j)) := by
  obtain ⟨entry, hentry, rfl⟩ := Option.map_eq_some_iff.1 hw
  obtain ⟨hne, hback⟩ := Queue.back_of_head? hentry
  rw [exec_read_view hfield hj, State.respondView_of_not_isEmpty hne, hback]

/-- Settles O20: field by field, the READ row answers byte `j` of the cell or of the entry the view sees, and the WRITE
row stores byte `j` of the cell. -/
theorem multiByteFieldsAreLeastSignificantFirst : Obligations.MultiByteFieldsAreLeastSignificantFirst := by
  unfold Obligations.MultiByteFieldsAreLeastSignificantFirst
  constructor
  · rintro s base k w v ⟨hP, hC⟩ hfield j hj
    rw [← natByte_eq_ofNat]
    change _ = Host.Outcome.next (s.respond (natByte w j))
    rcases hfield with ⟨rfl, rfl, rfl⟩ | ⟨rfl, rfl, hw⟩ | ⟨rfl, rfl, hw⟩ | ⟨rfl, rfl, hw⟩ | ⟨rfl, rfl, hw⟩ |
      ⟨rfl, rfl, rfl⟩ | ⟨rfl, rfl, rfl⟩
    · exact exec_read_half .debounce hj s v
    · exact exec_read_newest .pressedFront hj s v hP hw
    · exact exec_read_oldest .pressedBack hj s v hw
    · exact exec_read_newest .clickedFront hj s v hC hw
    · exact exec_read_oldest .clickedBack hj s v hw
    · exact exec_read_half .cycleTime hj s v
    · exact exec_read_half .offTime hj s v
  · intro s base field v hfield j hj
    have hhalf : HalfField base field := by
      rcases hfield with ⟨rfl, rfl⟩ | ⟨rfl, rfl⟩ | ⟨rfl, rfl⟩
      · exact .debounce
      · exact .cycleTime
      · exact .offTime
    obtain ⟨t, ht, hcell⟩ := exec_write_half hhalf hj s v
    refine ⟨t, ht, ?_, ?_⟩ <;> rw [hcell]
    · exact storeByte_same (field s.blk) v hj
    · exact storeByte_other (field s.blk) v hj

end Sys2Proof.Machine
end

section
/-! SUPPORT. Family 30_encoding.md: the reserved bits of the four bit-field bytes (30_encoding.md R76 to R78, R81). A
flag byte has no bit outside its flags, and a status write looks only at the bits it names. -/

namespace Sys2Proof.Machine

/-! ### What a flag byte has no bits in -/

/-- A flag shows nothing under a mask that leaves its bit out. -/
theorem flagBit_and_eq_zero (f : Bool) {n : Nat} {mask : Byte} (hout : Map.bitMask n &&& mask = 0) :
    flagBit f n &&& mask = 0 := by
  cases f
  · exact BitVec.zero_and
  · exact hout

theorem or_and_eq_zero {a b mask : Byte} (ha : a &&& mask = 0) (hb : b &&& mask = 0) : (a ||| b) &&& mask = 0 := by
  rw [BitVec.and_comm, BitVec.and_or_distrib_left, BitVec.and_comm mask a, BitVec.and_comm mask b, ha, hb]
  rfl

theorem buttonStatusByte_and_reserved (hasBeenClicked isPressed : Bool) :
    buttonStatusByte hasBeenClicked isPressed &&& Map.buttonStatusReserved = 0 :=
  or_and_eq_zero (flagBit_and_eq_zero _ (by decide)) (flagBit_and_eq_zero _ (by decide))

theorem interruptConfigByte_and_reserved (status clickedEnable pressedEnable : Bool) :
    interruptConfigByte status clickedEnable pressedEnable &&& Map.interruptConfigReserved = 0 :=
  or_and_eq_zero (or_and_eq_zero (flagBit_and_eq_zero _ (by decide)) (flagBit_and_eq_zero _ (by decide)))
    (flagBit_and_eq_zero _ (by decide))

theorem queueStatusByte_and_reserved (q : Queue) : queueStatusByte q &&& Map.queueStatusReserved = 0 :=
  or_and_eq_zero (flagBit_and_eq_zero _ (by decide)) (flagBit_and_eq_zero _ (by decide))

/-! ### What a status write looks at -/

/-- Bytes that agree under a mask agree in every bit the mask holds. -/
theorem getLsbD_eq_of_and_eq {v w mask : Byte} (hagree : v &&& mask = w &&& mask) {n : Nat}
    (hin : mask.getLsbD n = true) : v.getLsbD n = w.getLsbD n := by
  simpa [hin] using congrArg (·.getLsbD n) hagree

theorem exec_wrButtonStatus_congr {v w : Byte} (hclicked : writtenHasBeenClicked v = writtenHasBeenClicked w)
    (s : State) : exec (.wrButtonStatus v) s = exec (.wrButtonStatus w) s := by
  change execWrButtonStatus v s = execWrButtonStatus w s
  rw [execWrButtonStatus, execWrButtonStatus, hclicked]

theorem exec_wrInterruptConfig_congr {v w : Byte} (hpressed : writtenPressedEnable v = writtenPressedEnable w)
    (hclicked : writtenClickedEnable v = writtenClickedEnable w) (hstatus : writtenStatus v = writtenStatus w)
    (s : State) : exec (.wrInterruptConfig v) s = exec (.wrInterruptConfig w) s := by
  change execWrInterruptConfig v s = execWrInterruptConfig w s
  rw [execWrInterruptConfig, execWrInterruptConfig, hpressed, hclicked, hstatus]

theorem Queue.request_congr {v w : Byte} (hpop : writtenPopRequest v = writtenPopRequest w) (q : Queue) :
    q.request v = q.request w := by
  rw [Queue.request, Queue.request, hpop]

theorem exec_wrPressedQueueStatus_congr {v w : Byte} (hpop : writtenPopRequest v = writtenPopRequest w) (s : State) :
    exec (.wrPressedQueueStatus v) s = exec (.wrPressedQueueStatus w) s := by
  change execWrPressedQueueStatus v s = execWrPressedQueueStatus w s
  rw [execWrPressedQueueStatus, execWrPressedQueueStatus, Queue.request_congr hpop]

theorem exec_wrClickedQueueStatus_congr {v w : Byte} (hpop : writtenPopRequest v = writtenPopRequest w) (s : State) :
    exec (.wrClickedQueueStatus v) s = exec (.wrClickedQueueStatus w) s := by
  change execWrClickedQueueStatus v s = execWrClickedQueueStatus w s
  rw [execWrClickedQueueStatus, execWrClickedQueueStatus, Queue.request_congr hpop]

/-- Settles O56: each byte read is made of flags outside the reserved mask, and each write looks only at bits that the
complement of that mask keeps. -/
theorem reservedBitsReadZeroAndAreDiscarded : Obligations.ReservedBitsReadZeroAndAreDiscarded := by
  unfold Obligations.ReservedBitsReadZeroAndAreDiscarded
  intro s v w
  refine ⟨⟨_, _, _, _, rfl, rfl, rfl, rfl, ?_, ?_, ?_, ?_⟩, ?_, ?_, ?_⟩
  · exact buttonStatusByte_and_reserved _ _
  · exact interruptConfigByte_and_reserved _ _ _
  · exact queueStatusByte_and_reserved s.blk.queueP
  · exact queueStatusByte_and_reserved s.blk.queueC
  · intro hagree
    exact exec_wrButtonStatus_congr (getLsbD_eq_of_and_eq hagree rfl) s
  · intro hagree
    exact exec_wrInterruptConfig_congr (getLsbD_eq_of_and_eq hagree rfl) (getLsbD_eq_of_and_eq hagree rfl)
      (getLsbD_eq_of_and_eq hagree rfl) s
  · intro hagree
    have hpop : writtenPopRequest v = writtenPopRequest w := getLsbD_eq_of_and_eq hagree rfl
    exact ⟨exec_wrPressedQueueStatus_congr hpop s, exec_wrClickedQueueStatus_congr hpop s⟩

end Sys2Proof.Machine
end

section
/-! SUPPORT. Family 40_queue.md: the laws of the Event Queue (40_queue.md R96 to R103). `pop` and `push` are read off
once as operations on `contents`, a run of pushes as a window on the pushed list, and what a row of the decoder does to
a queue is said once for both queues. -/

namespace Sys2Proof.Machine

/-! ### The size and the two flags (40_queue.md R96 to R98) -/

theorem Queue.size_of_full {q : Queue} (hfull : q.full = true) : q.size = Config.capacity := by
  simp [Queue.size, hfull]

theorem Queue.size_of_not_full {q : Queue} (hfull : q.full = false) :
    q.size = (q.head.val + Config.capacity - q.tail.val) % Config.capacity := by
  simp [Queue.size, hfull]

theorem Queue.size_lt_of_not_full {q : Queue} (hfull : q.full = false) : q.size < Config.capacity := by
  rw [Queue.size_of_not_full hfull]
  exact Nat.mod_lt _ (by decide)

theorem Queue.isFull_iff_size_eq_capacity (q : Queue) : q.isFull = true ↔ q.size = Config.capacity := by
  constructor
  · exact Queue.size_of_full
  · intro hsize
    by_contra hfull
    exact (Queue.size_lt_of_not_full (Bool.eq_false_iff.2 hfull)).ne hsize

theorem Queue.isEmpty_of_full {q : Queue} (hfull : q.full = true) : q.isEmpty = false := by
  simp [Queue.isEmpty, hfull]

theorem Queue.isEmpty_iff_contents_eq_nil (q : Queue) : q.isEmpty = true ↔ q.contents = [] := by
  rw [q.isEmpty_iff_size_eq_zero, ← q.contents_length, List.length_eq_zero_iff]

/-! ### `pop` on the contents (40_queue.md R93, R99) -/

theorem Queue.pop_size {q : Queue} (hwf : q.Wf) (hne : q.isEmpty = false) : q.pop.size + 1 = q.size := by
  have hh := q.head.isLt
  have ht := q.tail.isLt
  have hpos := q.isEmpty_eq_false_iff_size_pos.1 hne
  rw [Queue.pop_of_not_isEmpty hne, Queue.size_of_not_full rfl, incIndex_val]
  cases hfull : q.full with
  | true =>
    rw [Queue.size_of_full hfull, hwf hfull]
    simp only [Config.capacity] at *
    omega
  | false =>
    rw [Queue.size_of_not_full hfull] at *
    simp only [Config.capacity] at *
    omega

/-- R99: `pop` takes the first entry off; on no entries it leaves none. -/
theorem Queue.pop_contents {q : Queue} (hwf : q.Wf) : q.pop.contents = q.contents.tail := by
  cases hne : q.isEmpty with
  | true => rw [Queue.pop_of_isEmpty hne, q.isEmpty_iff_contents_eq_nil.1 hne, List.tail_nil]
  | false =>
    have hsize := Queue.pop_size hwf hne
    apply List.ext_getElem
    · simp only [List.length_tail, Queue.contents_length]
      omega
    · intro i _ _
      rw [List.getElem_tail, Queue.contents_getElem, Queue.contents_getElem]
      simp only [Queue.pop_of_not_isEmpty hne, incIndex_val, Nat.mod_add_mod, Nat.add_assoc, Nat.add_comm 1 i]

/-- R93: `pop` answers the oldest entry, and `NoData` when there is none. -/
theorem Queue.popped_eq_head? (q : Queue) : q.popped = q.contents.head? := by
  cases hne : q.isEmpty with
  | true => simp [Queue.popped, hne, q.isEmpty_iff_contents_eq_nil.1 hne]
  | false => simp [Queue.popped, hne, Queue.contents_head? hne 0, Queue.back_of_not_isEmpty hne]

/-- `k` pops take the first `k` entries off (R99). -/
theorem Queue.iterate_pop_contents {q : Queue} (hwf : q.Wf) (k : Nat) :
    (Queue.pop^[k] q).contents = q.contents.drop k := by
  induction k generalizing q with
  | zero => rfl
  | succ k ih => rw [Function.iterate_succ_apply, ih (Queue.pop_wf hwf), Queue.pop_contents hwf, List.drop_tail]

/-- R102: `CAPACITY` pops empty a queue. -/
theorem Queue.iterate_pop_isEmpty {q : Queue} (hwf : q.Wf) : (Queue.pop^[Config.capacity] q).isEmpty = true := by
  rw [Queue.isEmpty_iff_contents_eq_nil, Queue.iterate_pop_contents hwf, List.drop_eq_nil_iff, q.contents_length]
  exact q.size_le

/-! ### `push` on the contents (40_queue.md R92, R99) -/

/-- The slot after the newest entry, counted from `tail`, is the one `head` names. -/
theorem Queue.head_index_of_not_full {q : Queue} (hfull : q.full = false) :
    (q.tail.val + q.size) % Config.capacity = q.head.val := by
  have hh := q.head.isLt
  have ht := q.tail.isLt
  rw [Queue.size_of_not_full hfull]
  simp only [Config.capacity] at *
  omega

/-- `push` writes no slot that holds an entry, unless the queue is full. -/
theorem Queue.entry_index_ne_head {q : Queue} (hfull : q.full = false) {i : Nat} (hi : i < q.size) :
    (q.tail.val + i) % Config.capacity ≠ q.head.val := by
  have hlt := Queue.size_lt_of_not_full hfull
  rw [← Queue.head_index_of_not_full hfull]
  simp only [Config.capacity] at *
  omega

theorem Queue.push_size_of_not_full {q : Queue} (hfull : q.full = false) (t : Timestamp) :
    (q.push t).size = q.size + 1 := by
  have hh := q.head.isLt
  have ht := q.tail.isLt
  by_cases hlast : incIndex q.head = q.tail
  · rw [Queue.size_of_full (by simp [hfull, hlast]), Queue.size_of_not_full hfull, ← hlast, incIndex_val]
    simp only [Config.capacity] at *
    omega
  · rw [Queue.size_of_not_full (by simp [hfull, hlast]), Queue.size_of_not_full hfull]
    have hval : (q.head.val + 1) % Config.capacity ≠ q.tail.val := fun h => hlast (Fin.ext h)
    simp only [Queue.push_head, Queue.push_tail, hfull, incIndex_val, Config.capacity, Bool.false_eq_true,
      if_false] at *
    omega

/-- R92: a queue that is not full gains the pushed entry at the end. -/
theorem Queue.push_contents_of_not_full {q : Queue} (hfull : q.full = false) (t : Timestamp) :
    (q.push t).contents = q.contents ++ [t] := by
  rw [Queue.contents, Queue.push_size_of_not_full hfull, List.range_succ, List.map_append]
  congr 1
  · refine List.map_congr_left fun i hi => ?_
    have hne := Queue.entry_index_ne_head hfull (List.mem_range.1 hi)
    simp [hfull, Vector.getElem_set_ne _ _ hne.symm]
  · simp [hfull, Queue.head_index_of_not_full hfull]

/-- R92 corner case (a): a push onto a full queue is a pop and then a push. -/
theorem Queue.push_of_full {q : Queue} (hfull : q.full = true) (t : Timestamp) : q.push t = q.pop.push t := by
  simp [Queue.pop_of_not_isEmpty (Queue.isEmpty_of_full hfull), Queue.push, hfull]

/-- R101: `push` appends, and drops the oldest entry only when the queue holds `CAPACITY`. -/
theorem Queue.push_contents {q : Queue} (hwf : q.Wf) (t : Timestamp) :
    (q.push t).contents = (if q.size < Config.capacity then q.contents else q.contents.tail) ++ [t] := by
  cases hfull : q.full with
  | false => rw [if_pos (Queue.size_lt_of_not_full hfull), Queue.push_contents_of_not_full hfull]
  | true =>
    have hpop : q.pop.full = false := by rw [Queue.pop_of_not_isEmpty (Queue.isEmpty_of_full hfull)]
    rw [if_neg (Queue.size_of_full hfull).not_lt, Queue.push_of_full hfull, Queue.push_contents_of_not_full hpop,
      Queue.pop_contents hwf]

/-- `push_contents` as a window: the last `CAPACITY` of the entries and the pushed one. -/
theorem Queue.push_contents_eq_drop {q : Queue} (hwf : q.Wf) (t : Timestamp) :
    (q.push t).contents = (q.contents ++ [t]).drop (q.size + 1 - Config.capacity) := by
  rw [Queue.push_contents hwf]
  split
  case isTrue hlt => rw [Nat.sub_eq_zero_of_le hlt, List.drop_zero]
  case isFalse hnlt =>
    have hsize : q.size = Config.capacity := q.size_le.antisymm (not_lt.1 hnlt)
    have hone : 1 ≤ q.contents.length := by simp [hsize]
    rw [hsize, Nat.add_sub_cancel_left, List.drop_append_of_le_length hone, List.drop_one]

/-- A push never makes a queue hold less. -/
theorem Queue.size_le_push_size {q : Queue} (hwf : q.Wf) (t : Timestamp) : q.size ≤ (q.push t).size := by
  have hle := q.size_le
  rw [← (q.push t).contents_length, Queue.push_contents_eq_drop hwf, List.length_drop, List.length_append,
    q.contents_length, List.length_singleton]
  omega

/-! ### A run of pushes (40_queue.md R100) -/

theorem Queue.foldl_push_wf {q : Queue} (hwf : q.Wf) (ts : List Timestamp) : (ts.foldl Queue.push q).Wf := by
  induction ts generalizing q with
  | nil => exact hwf
  | cons t ts ih => exact ih (q.push_wf t)

/-- R100: after any number of pushes a queue holds the last `CAPACITY` of what it held and what was pushed. -/
theorem Queue.foldl_push_contents {q : Queue} (hwf : q.Wf) (ts : List Timestamp) :
    (ts.foldl Queue.push q).contents = (q.contents ++ ts).drop (q.size + ts.length - Config.capacity) := by
  induction ts generalizing q with
  | nil => simp [Nat.sub_eq_zero_of_le q.size_le]
  | cons t ts ih =>
    have hcut : q.size + 1 - Config.capacity ≤ (q.contents ++ [t]).length := by
      simp only [List.length_append, Queue.contents_length, List.length_singleton]
      omega
    have hsize : (q.push t).size = q.size + 1 - (q.size + 1 - Config.capacity) := by
      rw [← (q.push t).contents_length, Queue.push_contents_eq_drop hwf]
      simp
    rw [List.foldl_cons, ih (q.push_wf t), Queue.push_contents_eq_drop hwf,
      ← List.drop_append_of_le_length hcut, List.drop_drop, List.append_assoc, List.singleton_append, hsize]
    congr 1
    simp only [List.length_cons, Config.capacity]
    omega

theorem Queue.foldl_push_size {q : Queue} (hwf : q.Wf) (ts : List Timestamp) :
    (ts.foldl Queue.push q).size = min (q.size + ts.length) Config.capacity := by
  rw [← Queue.contents_length, Queue.foldl_push_contents hwf, List.length_drop, List.length_append, q.contents_length]
  omega

theorem Queue.fresh_size (n : Nat) : (Queue.fresh n).size = 0 :=
  (Queue.fresh n).isEmpty_iff_size_eq_zero.1 rfl

/-! ### What a row does to a queue (40_queue.md R103) -/

/-- The two queues, each with the event that pushes onto it and the write to its status register. -/
inductive QueueRows : (Block → Queue) → (Timestamp → Instr) → (Byte → Instr) → Prop
  | pressed : QueueRows Block.queueP .evPress .wrPressedQueueStatus
  | clicked : QueueRows Block.queueC .evClick .wrClickedQueueStatus

section
variable {queue : Block → Queue} {event : Timestamp → Instr} {statusWrite : Byte → Instr}

/-- R103: a row other than RESET acts on each queue by itself: a push, the request of a status write, or nothing. -/
theorem QueueRows.exec_acts (hrows : QueueRows queue event statusWrite) {i : Instr}
    (hreset : ∀ cfg, i ≠ .reset cfg) :
    ∃ act : Queue → Queue,
      (∀ s t, exec i s = .next t → queue t.blk = act (queue s.blk)) ∧
      ((∃ ts, i = event ts ∧ act = fun q => q.push ts) ∨ (∃ v, i = statusWrite v ∧ act = fun q => q.request v) ∨
        act = id) := by
  cases hrows with
  | pressed =>
    cases i with
    | evPress ts => exact ⟨_, fun s t h => by cases h; rfl, .inl ⟨ts, rfl, rfl⟩⟩
    | wrPressedQueueStatus v =>
      exact ⟨_, fun s t h => by cases h; rfl, .inr (.inl ⟨v, rfl, rfl⟩)⟩
    | reset cfg => exact absurd rfl (hreset cfg)
    | _ => exact ⟨id, fun s t h => by cases h; rfl, .inr (.inr rfl)⟩
  | clicked =>
    cases i with
    | evClick ts => exact ⟨_, fun s t h => by cases h; rfl, .inl ⟨ts, rfl, rfl⟩⟩
    | wrClickedQueueStatus v =>
      exact ⟨_, fun s t h => by cases h; rfl, .inr (.inl ⟨v, rfl, rfl⟩)⟩
    | reset cfg => exact absurd rfl (hreset cfg)
    | _ => exact ⟨id, fun s t h => by cases h; rfl, .inr (.inr rfl)⟩

/-- R103: only its event, its status write and RESET touch a queue. -/
theorem QueueRows.exec_keeps (hrows : QueueRows queue event statusWrite) {i : Instr} {s t : State}
    (h : exec i s = .next t) (hevent : ∀ ts, i ≠ event ts) (hwrite : ∀ v, i ≠ statusWrite v)
    (hreset : ∀ cfg, i ≠ .reset cfg) : queue t.blk = queue s.blk := by
  obtain ⟨act, hact, ⟨ts, rfl, -⟩ | ⟨v, rfl, -⟩ | rfl⟩ := hrows.exec_acts hreset
  · exact absurd rfl (hevent ts)
  · exact absurd rfl (hwrite v)
  · exact hact s t h

/-- R103: what a row other than RESET leaves in a queue is decided by that queue alone. -/
theorem QueueRows.exec_congr (hrows : QueueRows queue event statusWrite) {i : Instr} {s t s' t' : State}
    (h : exec i s = .next t) (h' : exec i s' = .next t') (hreset : ∀ cfg, i ≠ .reset cfg)
    (heq : queue s.blk = queue s'.blk) : queue t.blk = queue t'.blk := by
  obtain ⟨act, hact, -⟩ := hrows.exec_acts hreset
  rw [hact s t h, hact s' t' h', heq]

/-- R102: a row after which a queue holds less is its `popRequest` write or RESET. -/
theorem QueueRows.exec_shrinks (hrows : QueueRows queue event statusWrite) {i : Instr} {s t : State}
    (hwf : (queue s.blk).Wf) (h : exec i s = .next t) (hless : (queue t.blk).size < (queue s.blk).size) :
    (∃ v : Byte, i = statusWrite v ∧ v.getLsbD 7 = true) ∨ ∃ cfg, i = .reset cfg := by
  by_cases hreset : ∃ cfg, i = .reset cfg
  · exact .inr hreset
  obtain ⟨act, hact, hcase⟩ := hrows.exec_acts (not_exists.1 hreset)
  rw [hact s t h] at hless
  rcases hcase with ⟨ts, -, rfl⟩ | ⟨v, rfl, rfl⟩ | rfl
  · exact absurd hless (Queue.size_le_push_size hwf ts).not_gt
  · rcases (queue s.blk).request_cases v with ⟨hbit, -⟩ | ⟨-, hkeep⟩
    · exact .inl ⟨v, rfl, hbit⟩
    · exact absurd hless (congrArg Queue.size hkeep).not_lt
  · exact absurd hless (lt_irrefl _)

/-- A `popRequest` write pops its queue once (42_bus_write.md R145, R148). -/
theorem QueueRows.exec_popRequest (hrows : QueueRows queue event statusWrite) {v : Byte} (hbit : v.getLsbD 7 = true)
    (s : State) : ∃ t, exec (statusWrite v) s = .next t ∧ queue t.blk = (queue s.blk).pop := by
  have hpop : (queue s.blk).request v = (queue s.blk).pop := if_pos hbit
  rw [← hpop]
  cases hrows <;> exact ⟨_, rfl, rfl⟩

/-- `n` `popRequest` writes in a row pop their queue `n` times. -/
theorem QueueRows.serveAll_popRequests (hrows : QueueRows queue event statusWrite) {b : ByteAccess} {v : Byte}
    (hinstr : b.instr = statusWrite v) (hbit : v.getLsbD 7 = true) (n : Nat) (s : State) :
    ∃ t, serveAll (List.replicate n b) s = .next t ∧ queue t.blk = Queue.pop^[n] (queue s.blk) := by
  induction n generalizing s with
  | zero => exact ⟨s, rfl, rfl⟩
  | succ n ih =>
    obtain ⟨t, ht, hpop⟩ := hrows.exec_popRequest hbit s
    obtain ⟨u, hu, hpops⟩ := ih t
    refine ⟨u, ?_, ?_⟩
    · rw [List.replicate_succ, serveAll_cons (hinstr ▸ ht), hu]
    · rw [hpops, hpop, Function.iterate_succ_apply]

/-- R102: `CAPACITY` `popRequest` writes in a row empty their queue. -/
theorem QueueRows.serveAll_popRequests_isEmpty (hrows : QueueRows queue event statusWrite) {b : ByteAccess} {v : Byte}
    (hinstr : b.instr = statusWrite v) (hbit : v.getLsbD 7 = true) {s : State} (hwf : (queue s.blk).Wf) :
    ∃ t, serveAll (List.replicate Config.capacity b) s = .next t ∧ (queue t.blk).isEmpty = true := by
  obtain ⟨t, ht, hpops⟩ := hrows.serveAll_popRequests hinstr hbit Config.capacity s
  exact ⟨t, ht, hpops ▸ Queue.iterate_pop_isEmpty hwf⟩

end

theorem pressedStatusAccess_instr (v : Byte) :
    ByteAccess.instr { rw := 0#1, addr := 0x04, wdata := v } = .wrPressedQueueStatus v := by
  rw [ByteAccess.instr, decodeKey_keyOf_zero]
  rfl

theorem clickedStatusAccess_instr (v : Byte) :
    ByteAccess.instr { rw := 0#1, addr := 0x0D, wdata := v } = .wrClickedQueueStatus v := by
  rw [ByteAccess.instr, decodeKey_keyOf_zero]
  rfl

/-! ### The statements -/

/-- Settles O26: the window on what the queue held and what was pushed leaves nothing of the former, and `k` pops take
the first `k` entries off it. -/
theorem queueIsASlidingWindow : Obligations.QueueIsASlidingWindow := by
  unfold Obligations.QueueIsASlidingWindow
  intro q ts hwf hlong
  have hcut : q.size + ts.length - Config.capacity = q.contents.length + (ts.length - Config.capacity) := by
    rw [q.contents_length, Nat.add_sub_assoc hlong]
  have hcontents : (ts.foldl Queue.push q).contents = ts.drop (ts.length - Config.capacity) := by
    rw [Queue.foldl_push_contents hwf, hcut, List.drop_length_add_append]
  have hsize : (ts.foldl Queue.push q).size = Config.capacity := by
    rw [Queue.foldl_push_size hwf, min_eq_right (Nat.le_add_left_of_le hlong)]
  refine ⟨hcontents, (Queue.isFull_iff_size_eq_capacity _).2 hsize, ?_, fun k _ => ?_⟩
  · rw [Queue.isEmpty_eq_false_iff_size_pos, hsize]
    decide
  · rw [Queue.popped_eq_head?, Queue.iterate_pop_contents (Queue.foldl_push_wf hwf ts), hcontents, List.drop_drop,
      List.head?_drop]

/-- Settles O27: `popped`, `pop` and `push` are the head, the tail and the appending of `contents`. -/
theorem queueIsFirstInFirstOut : Obligations.QueueIsFirstInFirstOut := by
  unfold Obligations.QueueIsFirstInFirstOut
  refine ⟨fun q t _ hempty => ?_, fun q hwf => ⟨q.popped_eq_head?, Queue.pop_contents hwf⟩,
    fun q t hwf => Queue.push_contents hwf t⟩
  have hfull : q.full = false :=
    Bool.eq_false_iff.2 fun hfull => absurd hempty (Bool.eq_false_iff.1 (Queue.isEmpty_of_full hfull))
  have hone : (q.push t).contents = [t] := by
    rw [Queue.push_contents_of_not_full hfull, q.isEmpty_iff_contents_eq_nil.1 hempty, List.nil_append]
  constructor
  · rw [Queue.popped_eq_head?, hone, List.head?_cons]
  · rw [Queue.isEmpty_iff_contents_eq_nil, Queue.pop_contents (q.push_wf t), hone, List.tail_cons]

/-- Settles O28: `isFull` says that the size is `CAPACITY` and `isEmpty` that it is 0; after pushes from RESET the size
is their number, up to `CAPACITY`. -/
theorem fullAndEmptyTellTheSize : Obligations.FullAndEmptyTellTheSize := by
  unfold Obligations.FullAndEmptyTellTheSize
  constructor
  · intro q hwf
    have hle := q.size_le
    have hfull := q.isFull_iff_size_eq_capacity
    have hempty := q.isEmpty_iff_size_eq_zero
    rw [q.contents_length]
    refine ⟨rfl, ?_, hfull, q.isEmpty_iff_contents_eq_nil, ?_, ?_, fun hsize => hwf (hfull.2 hsize)⟩
    · rw [Queue.isEmpty, beq_false]
    · rw [hfull, hempty]
      simp only [Config.capacity]
      omega
    · rw [← Bool.not_eq_true, ← Bool.not_eq_true, hfull, hempty]
      omega
  · intro n ts
    have hsize : (ts.foldl Queue.push (Queue.fresh n)).size = min ts.length Config.capacity := by
      rw [Queue.foldl_push_size (Queue.fresh_wf n), Queue.fresh_size, Nat.zero_add]
    constructor
    · rw [Queue.isFull_iff_size_eq_capacity, hsize, min_eq_right_iff]
    · rw [Queue.isEmpty_iff_size_eq_zero, hsize, ← List.length_eq_zero_iff]
      simp only [Config.capacity]
      omega

/-- Settles O30: each of the writes pops once, and neither a push nor a row that is not the queue's takes an entry. -/
theorem queueIsClearedOnlyByPopsOrReset : Obligations.QueueIsClearedOnlyByPopsOrReset := by
  unfold Obligations.QueueIsClearedOnlyByPopsOrReset
  constructor
  · rintro s v ⟨hP, hC⟩ hbit
    exact ⟨QueueRows.pressed.serveAll_popRequests_isEmpty (pressedStatusAccess_instr v) hbit hP,
      QueueRows.clicked.serveAll_popRequests_isEmpty (clickedStatusAccess_instr v) hbit hC⟩
  · rintro i s t ⟨hP, hC⟩ h
    exact ⟨QueueRows.pressed.exec_shrinks hP h, QueueRows.clicked.exec_shrinks hC h⟩

/-- Settles O31: a row acts on each queue by itself, and as nothing unless the row is that queue's. -/
theorem queuesAreIndependent : Obligations.QueuesAreIndependent := by
  unfold Obligations.QueuesAreIndependent
  intro i s t h
  exact ⟨QueueRows.pressed.exec_keeps h, QueueRows.clicked.exec_keeps h, fun s' t' h' hreset =>
    ⟨QueueRows.pressed.exec_congr h h' hreset, QueueRows.clicked.exec_congr h h' hreset⟩⟩

end Sys2Proof.Machine
end

section
/-! SUPPORT. Family 41_bus_read.md: the RD rows (41_bus_read.md R110 to R130). The bits of the status bytes are read off
the flags once, what the two views of a queue answer is said once for both queues, and a one-byte READ is followed
from the port to its row. -/

namespace Sys2Proof.Machine

/-! ### The bits of a status byte (30_encoding.md R76 to R78) -/

/-- A flag stands at its bit position and nowhere else. -/
theorem flagBit_getLsbD (f : Bool) {n : Nat} (hn : n < 8) (k : Nat) :
    (flagBit f n).getLsbD k = (f && decide (k = n)) := by
  cases f with
  | false => simp [flagBit]
  | true =>
    rw [Bool.eq_iff_iff]
    simp [flagBit, Map.bitMask]
    omega

theorem buttonStatusByte_getLsbD (hasBeenClicked isPressed : Bool) (k : Nat) :
    (buttonStatusByte hasBeenClicked isPressed).getLsbD k =
      (hasBeenClicked && decide (k = 1) || isPressed && decide (k = 0)) := by
  simp (disch := decide) only [buttonStatusByte, BitVec.getLsbD_or, flagBit_getLsbD]

theorem interruptConfigByte_getLsbD (status clickedEnable pressedEnable : Bool) (k : Nat) :
    (interruptConfigByte status clickedEnable pressedEnable).getLsbD k =
      (status && decide (k = 2) || clickedEnable && decide (k = 1) || pressedEnable && decide (k = 0)) := by
  simp (disch := decide) only [interruptConfigByte, BitVec.getLsbD_or, flagBit_getLsbD]

theorem queueStatusByte_getLsbD (q : Queue) (k : Nat) :
    (queueStatusByte q).getLsbD k = (q.isEmpty && decide (k = 6) || q.isFull && decide (k = 5)) := by
  simp (disch := decide) only [queueStatusByte, BitVec.getLsbD_or, flagBit_getLsbD]

/-- R115, R119: a queue is empty, neither empty nor full, or full. -/
theorem queueStatusByte_cases (q : Queue) :
    queueStatusByte q = 0x40 ∨ queueStatusByte q = 0x00 ∨ queueStatusByte q = 0x20 := by
  unfold queueStatusByte Queue.isFull
  cases hfull : q.full with
  | true =>
    rw [Queue.isEmpty_of_full hfull]
    exact .inr (.inr rfl)
  | false =>
    cases q.isEmpty with
    | true => exact .inl rfl
    | false => exact .inr (.inl rfl)

/-- R115, R119: the status byte of a queue, bit by bit. -/
theorem queueStatusByte_bits (q : Queue) :
    (queueStatusByte q).getLsbD 5 = q.isFull ∧ (queueStatusByte q).getLsbD 6 = q.isEmpty ∧
      (queueStatusByte q).getLsbD 7 = false ∧ (∀ k, k ≤ 4 → (queueStatusByte q).getLsbD k = false) ∧
      (queueStatusByte q = 0x40 ∨ queueStatusByte q = 0x00 ∨ queueStatusByte q = 0x20) := by
  simp only [queueStatusByte_getLsbD]
  refine ⟨by simp, by simp, by simp, fun k hk => ?_, queueStatusByte_cases q⟩
  simp [show k ≠ 6 by omega, show k ≠ 5 by omega]

/-! ### A 16-bit cell written byte by byte (42_bus_write.md R143) -/

theorem setHighByte_setLowByte (w : Half) (low high : Byte) :
    setHighByte (setLowByte w low) high = halfOf high low := by
  rw [setHighByte, setLowByte, lowByte_halfOf]

/-! ### The two views of a queue (41_bus_read.md R116 to R121; 40_queue.md R94, R95) -/

/-- R117, R120: with an entry, a byte of the `front` view is a byte of the newest one. -/
theorem State.respondView_newest {q : Queue} (hwf : q.Wf) {w : Timestamp} (hw : q.contents.getLast? = some w)
    (s : State) (j : Nat) : s.respondView q Queue.front j = s.respond (leByte w j) := by
  obtain ⟨hne, hfront⟩ := Queue.front_of_getLast? hwf hw
  rw [State.respondView_of_not_isEmpty hne, hfront, leByte_eq_natByte]

/-- R118, R121: with an entry, a byte of the `back` view is a byte of the oldest one. -/
theorem State.respondView_oldest {q : Queue} {w : Timestamp} (hw : q.contents.head? = some w) (s : State) (j : Nat) :
    s.respondView q Queue.back j = s.respond (leByte w j) := by
  obtain ⟨hne, hback⟩ := Queue.back_of_head? hw
  rw [State.respondView_of_not_isEmpty hne, hback, leByte_eq_natByte]

/-- The one entry of a queue is its newest and its oldest. -/
theorem State.respondView_front_eq_back {q : Queue} (hwf : q.Wf) (hone : q.size = 1) (s : State) (j : Nat) :
    s.respondView q Queue.front j = s.respondView q Queue.back j := by
  rw [← q.contents_length] at hone
  obtain ⟨w, hw⟩ := List.length_eq_one_iff.1 hone
  rw [State.respondView_newest hwf (w := w) (by rw [hw]; rfl), State.respondView_oldest (w := w) (by rw [hw]; rfl)]

/-- The key of a READ, as a number (30_encoding.md R71). -/
theorem keyOf_one_eq_ofNat (a : Offset) : keyOf 1#1 a = BitVec.ofNat 9 (0x100 + a.toNat) := by
  revert a
  decide

/-- The rows that answer byte `j` of the two views of a queue. -/
structure ViewRows (queue : Block → Queue) (front back : Instr) (j : Nat) : Prop where
  exec_front (s : State) : exec front s = .next (s.respondView (queue s.blk) Queue.front j)
  exec_back (s : State) : exec back s = .next (s.respondView (queue s.blk) Queue.back j)

theorem ViewField.base_add_lt {base j : Nat} {queue : Block → Queue} {peek : Queue → Timestamp → Timestamp}
    (hfield : ViewField base queue peek) (hj : j < 4) : base + j < 256 := by
  have hbase : base ≤ 0x12 := by cases hfield <;> decide
  omega

/-- What the key of byte `j` of a view decodes to answers byte `j` of the end of the queue it sees. -/
theorem ViewField.exec_of_decodeKey {base j : Nat} {queue : Block → Queue} {peek : Queue → Timestamp → Timestamp}
    (hfield : ViewField base queue peek) (hj : j < 4) {i : Instr} {v : Byte}
    (hkey : decodeKey (BitVec.ofNat 9 (0x100 + base + j)) v = i) (s : State) :
    exec i s = .next (s.respondView (queue s.blk) peek j) := by
  have haddr : (BitVec.ofNat 8 (base + j)).toNat = base + j :=
    Nat.mod_eq_of_lt (hfield.base_add_lt hj)
  rw [← exec_read_view hfield hj s v, keyOf_one_eq_ofNat, haddr, ← Nat.add_assoc, hkey]

section
variable {queue : Block → Queue} {front back : Instr} {j : Nat}

/-- R116: whatever the queue holds, a byte is answered and at most the count of draws changes besides. -/
theorem ViewRows.exec_answers (hrows : ViewRows queue front back j) (s : State) :
    ∃ (b c : Byte) (n m : Nat),
      exec front s = .next { s with rspData := s.rspData ++ [b], draws := n } ∧
      exec back s = .next { s with rspData := s.rspData ++ [c], draws := m } :=
  ⟨_, _, _, _, hrows.exec_front s, hrows.exec_back s⟩

theorem ViewRows.exec_newest (hrows : ViewRows queue front back j) {s : State} (hwf : (queue s.blk).Wf)
    {w : Timestamp} (hw : (queue s.blk).contents.getLast? = some w) :
    exec front s = .next (s.respond (leByte w j)) := by
  rw [hrows.exec_front, State.respondView_newest hwf hw]

theorem ViewRows.exec_oldest (hrows : ViewRows queue front back j) {s : State} {w : Timestamp}
    (hw : (queue s.blk).contents.head? = some w) : exec back s = .next (s.respond (leByte w j)) := by
  rw [hrows.exec_back, State.respondView_oldest hw]

/-- R118: the `back` view shows the entry that the next `pop` removes. -/
theorem ViewRows.exec_popped (hrows : ViewRows queue front back j) {s : State} {w : Timestamp}
    (hw : (queue s.blk).popped = some w) : exec back s = .next (s.respond (leByte w j)) :=
  hrows.exec_oldest (by rw [← Queue.popped_eq_head?, hw])

theorem ViewRows.exec_front_eq_exec_back (hrows : ViewRows queue front back j) {s : State} (hwf : (queue s.blk).Wf)
    (hone : (queue s.blk).size = 1) : exec front s = exec back s := by
  rw [hrows.exec_front, hrows.exec_back, State.respondView_front_eq_back hwf hone]

end

/-! ### A one-byte READ, from the port to its row (41_bus_read.md R110, R111; 20_memory.md R58, R59) -/

/-- R111: the READ row of an address of the map appends one byte and may draw; nothing else changes. -/
theorem exec_byteRows_read {row : Nat × Instr × (Byte → Instr)} (hrow : row ∈ byteRows) (s : State) :
    ∃ (b : Byte) (n : Nat), exec row.2.1 s = .next { s with rspData := s.rspData ++ [b], draws := n } := by
  unfold byteRows at hrow
  fin_cases hrow <;> exact ⟨_, _, rfl⟩

theorem decodeRead_mem_byteRows {a : Offset} (ha : a.toNat < Config.mapSize) :
    ∃ row ∈ byteRows, decodeRead a = row.2.1 := by
  obtain ⟨⟨r, w⟩, hlookup⟩ := Option.isSome_iff_exists.1 (byteRows_lookup_isSome ha)
  obtain ⟨before, after, hsplit, -⟩ := List.lookup_eq_some_iff.1 hlookup
  exact ⟨(a.toNat, r, w), by simp [hsplit], by simp [decodeRead, hlookup]⟩

/-- A READ of an address of the map leaves `rsp_err` as it is (R110). -/
theorem exec_decodeRead_inMap {a : Offset} (ha : a.toNat < Config.mapSize) (s : State) :
    ∃ t, exec (decodeRead a) s = .next t ∧ t.rspErr = s.rspErr := by
  obtain ⟨row, hrow, hdecode⟩ := decodeRead_mem_byteRows ha
  obtain ⟨b, n, hexec⟩ := exec_byteRows_read hrow s
  rw [hdecode]
  exact ⟨_, hexec, rfl⟩

/-- R130: a READ of an address outside the map is rejected. -/
theorem exec_decodeRead_outOfMap {a : Offset} (ha : Config.mapSize ≤ a.toNat) (s : State) :
    exec (decodeRead a) s = .next s.rejectRange := by
  rcases decodeRead_outOfMap ha with hrow | hrow | hrow <;> rw [hrow] <;> rfl

theorem serveAll_singleton (b : ByteAccess) (s : State) : serveAll [b] s = exec b.instr s := by
  obtain ⟨t, ht⟩ := exec_total b.instr s
  rw [serveAll_cons ht, serveAll_nil, ht]

theorem readAccess_instr (a : Offset) : ByteAccess.instr { rw := 1#1, addr := a, wdata := 0 } = decodeRead a :=
  decodeKey_keyOf_one a 0

theorem Request.accesses_read_one (a : Offset) :
    (Request.read a 1).accesses = [{ rw := 1#1, addr := a, wdata := 0 }] := by
  simp [Request.accesses, readAccesses]

theorem Request.inRange_read_one (a : Offset) : (Request.read a 1).inRange = decide (a.toNat < Config.mapSize) := rfl

theorem Request.rejected_read_outOfMap {a : Offset} (ha : Config.mapSize ≤ a.toNat) (len : Nat) :
    (Request.read a len).rejected = { rw := 1#1, addr := a, wdata := 0 } := by
  rw [Request.rejected, outOfMap, if_neg ha.not_gt]

/-- A one-byte READ is its row on an emptied response port, accepted or not, in either setting of `XACT_ATOMIC`. -/
theorem takeRequest_read_one {s : State} (hidle : s.serving = []) (a : Offset) :
    takeRequest (.read a 1) s = exec (decodeRead a) s.beginResponse := by
  rcases takeRequest_cases (.read a 1) s with ⟨hrange, htake⟩ | ⟨-, -, htake⟩ | ⟨-, -, htake⟩
  · rw [Request.inRange_read_one, decide_eq_false_iff_not, not_lt] at hrange
    rw [htake, Request.rejected_read_outOfMap hrange, readAccess_instr]
  · rw [htake, Request.accesses_read_one, serveAll_singleton, readAccess_instr]
  · have hserve : { s.beginResponse with serving := [] } = s.beginResponse := by
      rw [← hidle]
      rfl
    rw [htake, Request.accesses_read_one]
    change exec (ByteAccess.instr { rw := 1#1, addr := a, wdata := 0 }) { s.beginResponse with serving := [] } = _
    rw [readAccess_instr, hserve]

/-- A request presented alone is taken at once. -/
theorem step_presenting_request (s : State) (r : Request) :
    step (s.presenting (.ofRequest r)) = takeRequest r { s with inbox := [], serving := [] } := rfl

/-- R110, R129: a one-byte READ is accepted exactly at the addresses of the map. -/
theorem step_read_one_rspErr (s : State) (a : Offset) :
    ∃ t, step (s.presenting (.ofRequest (.read a 1))) = .next t ∧
      (t.rspErr = Config.ok ↔ a.toNat < Config.mapSize) := by
  rw [step_presenting_request, takeRequest_read_one rfl]
  by_cases ha : a.toNat < Config.mapSize
  · obtain ⟨t, ht, herr⟩ := exec_decodeRead_inMap ha (State.beginResponse { s with inbox := [], serving := [] })
    exact ⟨t, ht, iff_of_true herr ha⟩
  · have herr : Config.errRange ≠ Config.ok := by decide
    exact ⟨_, exec_decodeRead_outOfMap (not_lt.1 ha) _, iff_of_false herr ha⟩

/-! ### The statements -/

/-- Settles O39: the byte answered is made of the two flags, and a byte without a bit from 2 on is less than 4. -/
theorem readButtonStatus : Obligations.ReadButtonStatus := by
  unfold Obligations.ReadButtonStatus
  intro s v
  have hrest : ∀ k, 2 ≤ k → (buttonStatusByte s.blk.hasBeenClicked s.blk.isPressed).getLsbD k = false := by
    intro k hk
    simp [buttonStatusByte_getLsbD, show k ≠ 1 by omega, show k ≠ 0 by omega]
  refine ⟨rfl, _, rfl, ?_, ?_, hrest, ?_⟩
  · rw [buttonStatusByte_getLsbD]
    simp
  · rw [buttonStatusByte_getLsbD]
    simp
  · exact Nat.le_of_lt_succ (Nat.lt_pow_two_of_testBit _ hrest)

/-- Settles O40: the two rows answer the halves of the cell, and the two writes make the cell of what they write. -/
theorem readButtonDebounceTime : Obligations.ReadButtonDebounceTime := by
  unfold Obligations.ReadButtonDebounceTime
  intro s v lo hi
  refine ⟨rfl, rfl, rfl, rfl, _, _, _, _, rfl, rfl, rfl, rfl, ?_⟩
  simp [setHighByte_setLowByte, lowByte_halfOf, highByte_halfOf]

/-- Settles O41: the byte answered is made of the two enables and the latch. -/
theorem readInterruptConfig : Obligations.ReadInterruptConfig := by
  unfold Obligations.ReadInterruptConfig
  intro s v
  refine ⟨rfl, _, rfl, ?_, ?_, ?_, fun k hk => ?_⟩
  · rw [interruptConfigByte_getLsbD]
    simp
  · rw [interruptConfigByte_getLsbD]
    simp
  · rw [interruptConfigByte_getLsbD]
    simp
  · simp [interruptConfigByte_getLsbD, show k ≠ 2 by omega, show k ≠ 1 by omega, show k ≠ 0 by omega]

/-- Settles O42: each row answers the status byte of its own queue. -/
theorem readQueueStatus : Obligations.ReadQueueStatus := by
  unfold Obligations.ReadQueueStatus
  intro s v
  exact ⟨⟨rfl, _, rfl, queueStatusByte_bits s.blk.queueP⟩, rfl, _, rfl, queueStatusByte_bits s.blk.queueC⟩

/-- Settles O43: the keys decode to the rows listed, and the rows are those of the two views of `P`. -/
theorem readPressedViews : Obligations.ReadPressedViews := by
  unfold Obligations.ReadPressedViews
  intro s v front back j hlist
  obtain ⟨hj, hfront, hback⟩ : j < 4 ∧ decodeKey (BitVec.ofNat 9 (0x105 + j)) v = front ∧
      decodeKey (BitVec.ofNat 9 (0x109 + j)) v = back := by
    fin_cases hlist <;> exact ⟨by decide, rfl, rfl⟩
  have hrows : ViewRows Block.queueP front back j :=
    ⟨ViewField.pressedFront.exec_of_decodeKey hj hfront, ViewField.pressedBack.exec_of_decodeKey hj hback⟩
  exact ⟨hfront, hback, hrows.exec_answers s, fun hwf =>
    ⟨fun _ hw => hrows.exec_newest hwf hw, fun _ hw => hrows.exec_oldest hw, fun _ hw => hrows.exec_popped hw,
      fun hone => hrows.exec_front_eq_exec_back hwf hone⟩⟩

/-- Settles O44: the keys decode to the rows listed, and the rows are those of the two views of `C`. -/
theorem readClickedViews : Obligations.ReadClickedViews := by
  unfold Obligations.ReadClickedViews
  intro s v front back j hlist
  obtain ⟨hj, hfront, hback⟩ : j < 4 ∧ decodeKey (BitVec.ofNat 9 (0x10E + j)) v = front ∧
      decodeKey (BitVec.ofNat 9 (0x112 + j)) v = back := by
    fin_cases hlist <;> exact ⟨by decide, rfl, rfl⟩
  have hrows : ViewRows Block.queueC front back j :=
    ⟨ViewField.clickedFront.exec_of_decodeKey hj hfront, ViewField.clickedBack.exec_of_decodeKey hj hback⟩
  exact ⟨hfront, hback, hrows.exec_answers s, fun hwf =>
    ⟨fun _ hw => hrows.exec_newest hwf hw, fun _ hw => hrows.exec_oldest hw⟩⟩

/-- Settles O45: each key has its row in the table, and each row answers its cell or a half of it. -/
theorem readLedCells : Obligations.ReadLedCells := by
  unfold Obligations.ReadLedCells
  intro s v
  exact ⟨⟨rfl, rfl, rfl, rfl, rfl, rfl⟩, rfl, rfl, rfl, rfl, rfl, rfl⟩

/-- Settles O46: the four rows answer their cell or constant, and a one-byte READ passes the range check exactly inside
the map. -/
theorem readAddressAndIdentity : Obligations.ReadAddressAndIdentity := by
  unfold Obligations.ReadAddressAndIdentity
  intro s v
  refine ⟨⟨rfl, rfl, rfl, rfl⟩, rfl, rfl, rfl, rfl, fun a => ?_⟩
  obtain ⟨t, ht, haccept⟩ := step_read_one_rspErr s a
  exact ⟨t, ht, haccept.trans Nat.lt_succ_iff⟩

end Sys2Proof.Machine
end

section
/-! SUPPORT. Family 42_bus_write.md: the WR rows that store a byte plainly and those that discard it (42_bus_write.md
R143, R146 to R154, R156 to R158). That a byte written into a view is discarded is said once for all four views. -/

namespace Sys2Proof.Machine

/-! ### The key of a WRITE -/

/-- The key of a WRITE, as a number (30_encoding.md R71). -/
theorem keyOf_zero_eq_ofNat (a : Offset) : keyOf 0#1 a = BitVec.ofNat 9 a.toNat := by
  revert a
  decide

/-! ### The bytes of the four views (42_bus_write.md R146, R147, R149, R150) -/

/-- A WRITE of byte `j` of a view is discarded. -/
theorem exec_write_view {base j : Nat} {queue : Block → Queue} {peek : Queue → Timestamp → Timestamp}
    (hfield : ViewField base queue peek) (hj : j < 4) (s : State) (v : Byte) :
    exec (decodeKey (keyOf 0#1 (BitVec.ofNat 8 (base + j))) v) s = .next s := by
  rw [decodeKey_keyOf_zero]
  match j, hj with
  | 0, _ | 1, _ | 2, _ | 3, _ => cases hfield <;> rfl

/-- The addresses beside the two status registers of the queues are bytes of views (30_encoding.md R74). -/
theorem exists_viewField {a : Nat} (ha : 0x05 ≤ a ∧ a < 0x0D ∨ 0x0E ≤ a ∧ a < 0x16) :
    ∃ base queue peek, ViewField base queue peek ∧ ∃ j < 4, a = base + j := by
  obtain h | h | h | h : (0x05 ≤ a ∧ a < 0x09) ∨ (0x09 ≤ a ∧ a < 0x0D) ∨ (0x0E ≤ a ∧ a < 0x12) ∨
      (0x12 ≤ a ∧ a < 0x16) := by omega
  · exact ⟨_, _, _, .pressedFront, a - 0x05, by omega, (Nat.add_sub_of_le h.1).symm⟩
  · exact ⟨_, _, _, .pressedBack, a - 0x09, by omega, (Nat.add_sub_of_le h.1).symm⟩
  · exact ⟨_, _, _, .clickedFront, a - 0x0E, by omega, (Nat.add_sub_of_le h.1).symm⟩
  · exact ⟨_, _, _, .clickedBack, a - 0x12, by omega, (Nat.add_sub_of_le h.1).symm⟩

/-- What the key of a WRITE into a view decodes to changes nothing. -/
theorem exec_write_viewAddress {a : Nat} (ha : 0x05 ≤ a ∧ a < 0x0D ∨ 0x0E ≤ a ∧ a < 0x16) (s : State) (v : Byte) :
    exec (decodeKey (BitVec.ofNat 9 a) v) s = .next s := by
  obtain ⟨base, queue, peek, hfield, j, hj, rfl⟩ := exists_viewField ha
  have haddr : (BitVec.ofNat 8 (base + j)).toNat = base + j := Nat.mod_eq_of_lt (hfield.base_add_lt hj)
  rw [← exec_write_view hfield hj s v, keyOf_zero_eq_ofNat, haddr]

/-! ### The statements -/

/-- Settles O49: each row puts its byte beside the half of the cell that it keeps. -/
theorem writeButtonDebounceTime : Obligations.WriteButtonDebounceTime := by
  unfold Obligations.WriteButtonDebounceTime
  intro s v
  exact ⟨rfl, rfl, rfl, rfl⟩

/-- Settles O52: each key has its row in the table, and every address listed is a byte of a view. -/
theorem writeToViewsIsIgnored : Obligations.WriteToViewsIsIgnored := by
  unfold Obligations.WriteToViewsIsIgnored
  intro s v a i hlist
  obtain ⟨hkey, ha⟩ : decodeKey (BitVec.ofNat 9 a) v = i ∧ (0x05 ≤ a ∧ a < 0x0D ∨ 0x0E ≤ a ∧ a < 0x16) := by
    fin_cases hlist <;> exact ⟨rfl, by decide⟩
  exact ⟨hkey, hkey ▸ exec_write_viewAddress ha s v⟩

/-- Settles O53: the three rows discard their byte, and the identifier answered is no cell of the state. -/
theorem writeToIdentityIsIgnored : Obligations.WriteToIdentityIsIgnored := by
  unfold Obligations.WriteToIdentityIsIgnored
  intro s v
  exact ⟨⟨rfl, rfl, rfl⟩, rfl, rfl, rfl, rfl⟩

/-- Settles O54: each key has its row in the table; a row of a byte cell stores it, which the port shows, and a row of
a 16-bit cell puts its byte beside the half that it keeps. -/
theorem writeLedCells : Obligations.WriteLedCells := by
  unfold Obligations.WriteLedCells
  intro s v
  exact ⟨⟨rfl, rfl, rfl, rfl, rfl, rfl⟩, ⟨_, rfl, rfl, rfl⟩, rfl, rfl, rfl, rfl, rfl⟩

end Sys2Proof.Machine
end

section
/-! SUPPORT. Family 43_events_interrupt.md: the interrupt latch `status` (43_events_interrupt.md R173, R174). What a row
does to the latch is said once, and when it rises and when it falls are read off that. -/

namespace Sys2Proof.Machine

/-! ### What a row does to the latch -/

/-- The two events raise the latch as their enable says, the write to 0x03 acknowledges it, RESET clears it, and every
other row keeps it. -/
theorem exec_status_cases {i : Instr} {s t : State} (h : exec i s = .next t) :
    (∃ ts, i = .evPress ts ∧ t.blk.status = (s.blk.status || s.blk.pressedEnable)) ∨
    (∃ ts, i = .evClick ts ∧ t.blk.status = (s.blk.status || s.blk.clickedEnable)) ∨
    (∃ v : Byte, i = .wrInterruptConfig v ∧ t.blk.status = (s.blk.status && v.getLsbD 2)) ∨
    (∃ cfg, i = .reset cfg ∧ t.blk.status = false) ∨
    ((∀ ts, i ≠ .evPress ts) ∧ (∀ ts, i ≠ .evClick ts) ∧ (∀ v, i ≠ .wrInterruptConfig v) ∧ (∀ cfg, i ≠ .reset cfg) ∧
      t.blk.status = s.blk.status) := by
  cases i with
  | evPress ts =>
    cases h
    exact .inl ⟨ts, rfl, Block.raiseInterrupt_status _ _⟩
  | evClick ts =>
    cases h
    exact .inr (.inl ⟨ts, rfl, Block.raiseInterrupt_status _ _⟩)
  | wrInterruptConfig v =>
    cases h
    exact .inr (.inr (.inl ⟨v, rfl, Block.acknowledge_status _ _⟩))
  | reset cfg =>
    cases h
    exact .inr (.inr (.inr (.inl ⟨cfg, rfl, Block.ofCfg_status _ _ _⟩)))
  | _ =>
    cases h
    exact .inr (.inr (.inr (.inr ⟨nofun, nofun, nofun, nofun, rfl⟩)))

/-! ### The statements -/

/-- Settles O32: from 0 an event leaves its enable in the latch, and every other row leaves 0. -/
theorem latchIsSetOnlyByEnabledEvents : Obligations.LatchIsSetOnlyByEnabledEvents := by
  unfold Obligations.LatchIsSetOnlyByEnabledEvents
  intro i s t hclear h
  rcases exec_status_cases h with ⟨ts, rfl, hstatus⟩ | ⟨ts, rfl, hstatus⟩ | ⟨v, rfl, hstatus⟩ | ⟨cfg, rfl, hstatus⟩ |
    ⟨hpress, hclick, -, -, hstatus⟩
  · simp [hstatus, hclear]
  · simp [hstatus, hclear]
  · simp [hstatus, hclear]
  · simp [hstatus]
  · simp [hstatus, hclear, hpress, hclick]

/-- Settles O33: from 1 a write to 0x03 leaves its bit 2 in the latch, RESET leaves 0, and every other row leaves 1. -/
theorem latchIsClearedOnlyByAcknowledge : Obligations.LatchIsClearedOnlyByAcknowledge := by
  unfold Obligations.LatchIsClearedOnlyByAcknowledge
  intro i s t hset h
  rcases exec_status_cases h with ⟨ts, rfl, hstatus⟩ | ⟨ts, rfl, hstatus⟩ | ⟨v, rfl, hstatus⟩ | ⟨cfg, rfl, hstatus⟩ |
    ⟨-, -, hwrite, hreset, hstatus⟩
  · simp [hstatus, hset]
  · simp [hstatus, hset]
  · simp [hstatus, hset]
  · simp [hstatus]
  · simp [hstatus, hset, hwrite, hreset]

end Sys2Proof.Machine
end

section
/-! SUPPORT. Family 60_exceptions.md: nothing stops the block (60_exceptions.md R190), and what looks like an error but
is none: a pop of an empty queue (R193), a write to a read-only byte (R194), a read of a view of an empty queue (R195).
A one-byte WRITE is followed from the port to its row, as the RD rows' section does for a READ. -/

namespace Sys2Proof.Machine

/-! ### Every step answers a next state (60_exceptions.md R190) -/

theorem serveNext_total (s : State) : ∃ t, serveNext s = .next t := by
  rcases serveNext_cases s with ⟨-, hserve⟩ | ⟨b, bs, -, hserve⟩
  · exact ⟨s, hserve⟩
  · rw [hserve]
    exact exec_total _ _

theorem takeRequest_total (r : Request) (s : State) : ∃ t, takeRequest r s = .next t := by
  rcases takeRequest_cases r s with ⟨-, htake⟩ | ⟨-, -, htake⟩ | ⟨-, -, htake⟩ <;> rw [htake]
  · exact exec_total _ _
  · exact serveAll_total _ _
  · exact serveNext_total _

theorem busTurn_total (p : Presentation) (rest : List Presentation) (s : State) :
    ∃ t, busTurn p rest s = .next t := by
  rcases busTurn_cases p rest s with ⟨-, hturn⟩ | ⟨-, -, hturn⟩ | ⟨r, -, -, hturn⟩
  · rw [hturn]
    exact serveNext_total _
  · exact ⟨_, hturn⟩
  · rw [hturn]
    exact takeRequest_total _ _

theorem takePresented_total (p : Presentation) (rest : List Presentation) (s : State) :
    ∃ t, takePresented p rest s = .next t := by
  rcases takePresented_cases p rest s with ⟨cfg, -, htake⟩ | ⟨e, -, -, htake⟩ | ⟨-, htake⟩ <;> rw [htake]
  · exact exec_total _ _
  · exact exec_total _ _
  · exact busTurn_total _ _ _

theorem step_total (s : State) : ∃ t, step s = .next t := by
  cases hinbox : s.inbox with
  | nil =>
    rw [step_of_inbox_nil hinbox]
    exact serveNext_total s
  | cons p rest =>
    rw [step_of_inbox_cons hinbox]
    exact takePresented_total p rest s

/-! ### A one-byte WRITE, from the port to its row (42_bus_write.md R140, R141; 20_memory.md R58, R59) -/

theorem writeAccess_instr (a : Offset) (v : Byte) :
    ByteAccess.instr { rw := 0#1, addr := a, wdata := v } = decodeWrite a v :=
  decodeKey_keyOf_zero a v

theorem Request.accesses_write_one (a : Offset) (v : Byte) :
    (Request.write a [v]).accesses = [{ rw := 0#1, addr := a, wdata := v }] := by
  simp [Request.accesses, writeAccesses]

/-- A one-byte WRITE into the map is its row on an emptied response port, in either setting of `XACT_ATOMIC`. -/
theorem step_write_one {a : Offset} (ha : a.toNat < Config.mapSize) (s : State) (v : Byte) :
    step (s.presenting (.ofRequest (.write a [v]))) =
      exec (decodeWrite a v) { s with inbox := [], serving := [], rspErr := Config.ok, rspData := [] } := by
  have hrange : (Request.write a [v]).inRange = true := decide_eq_true ha
  rw [step_presenting_request, ← writeAccess_instr]
  rcases takeRequest_cases (.write a [v]) { s with inbox := [], serving := [] } with
    ⟨hreject, -⟩ | ⟨-, -, htake⟩ | ⟨-, -, htake⟩
  · simp [hrange] at hreject
  · rw [htake, Request.accesses_write_one, serveAll_singleton]
    rfl
  · rw [htake, Request.accesses_write_one]
    rfl

theorem decodeWrite_mem_byteRows {a : Offset} (ha : a.toNat < Config.mapSize) (v : Byte) :
    ∃ row ∈ byteRows, decodeWrite a v = row.2.2 v := by
  obtain ⟨⟨r, w⟩, hlookup⟩ := Option.isSome_iff_exists.1 (byteRows_lookup_isSome ha)
  obtain ⟨before, after, hsplit, -⟩ := List.lookup_eq_some_iff.1 hlookup
  exact ⟨(a.toNat, r, w), by simp [hsplit], by simp [decodeWrite, hlookup]⟩

/-- R141: no WRITE row of an address of the map raises an exception. -/
theorem exec_byteRows_write {row : Nat × Instr × (Byte → Instr)} (hrow : row ∈ byteRows) (s : State) (v : Byte) :
    ∃ t, exec (row.2.2 v) s = .next t ∧ t.rspErr = s.rspErr := by
  unfold byteRows at hrow
  fin_cases hrow <;> exact ⟨_, rfl, rfl⟩

/-- A one-byte WRITE into the map is answered `OK`. -/
theorem step_write_one_ok {a : Offset} (ha : a.toNat < Config.mapSize) (s : State) (v : Byte) :
    ∃ t, step (s.presenting (.ofRequest (.write a [v]))) = .next t ∧ t.rspErr = Config.ok := by
  obtain ⟨row, hrow, hdecode⟩ := decodeWrite_mem_byteRows ha v
  rw [step_write_one ha, hdecode]
  exact exec_byteRows_write hrow _ v

/-! ### What is no exception (60_exceptions.md R193 to R195) -/

/-- R194: the bytes of the views and the three identity bytes discard what is written. -/
theorem exec_decodeWrite_readOnly {a : Offset}
    (ha : 5 ≤ a.toNat ∧ a.toNat ≤ 12 ∨ 14 ≤ a.toNat ∧ a.toNat ≤ 21 ∨ 29 ≤ a.toNat ∧ a.toNat ≤ 31) (s : State)
    (v : Byte) : exec (decodeWrite a v) s = .next s := by
  obtain hview | hid : (0x05 ≤ a.toNat ∧ a.toNat < 0x0D ∨ 0x0E ≤ a.toNat ∧ a.toNat < 0x16) ∨
      29 ≤ a.toNat ∧ a.toNat ≤ 31 := by omega
  · rw [← decodeKey_keyOf_zero, keyOf_zero_eq_ofNat]
    exact exec_write_viewAddress hview s v
  · obtain rfl | rfl | rfl : a = 0x1D ∨ a = 0x1E ∨ a = 0x1F := by bv_omega
    · rfl
    · rfl
    · rfl

/-- R93: `popRequest` finds nothing to take in an empty queue. -/
theorem Queue.request_of_isEmpty {q : Queue} (hempty : q.isEmpty = true) (v : Byte) : q.request v = q := by
  rw [Queue.request, Queue.pop_of_isEmpty hempty, ite_self]

/-- R193: a write to the status register of an empty queue changes nothing. -/
theorem QueueRows.exec_statusWrite_of_isEmpty {queue : Block → Queue} {event : Timestamp → Instr}
    {statusWrite : Byte → Instr} (hrows : QueueRows queue event statusWrite) {s : State}
    (hempty : (queue s.blk).isEmpty = true) (v : Byte) : exec (statusWrite v) s = .next s := by
  have hkeep := Queue.request_of_isEmpty hempty v
  cases hrows with
  | pressed => exact congrArg (fun q => Host.Outcome.next (s.setBlk { s.blk with queueP := q })) hkeep
  | clicked => exact congrArg (fun q => Host.Outcome.next (s.setBlk { s.blk with queueC := q })) hkeep

/-- R111: a one-byte READ of the map is answered `OK` with one byte, and at most the count of draws changes besides. -/
theorem step_read_one_inMap {a : Offset} (ha : a.toNat < Config.mapSize) (s : State) :
    ∃ (b : Byte) (n : Nat), step (s.presenting (.ofRequest (.read a 1))) =
      .next { s with inbox := [], serving := [], rspErr := Config.ok, rspData := [b], draws := n } := by
  obtain ⟨row, hrow, hdecode⟩ := decodeRead_mem_byteRows ha
  rw [step_presenting_request, takeRequest_read_one rfl, hdecode]
  exact exec_byteRows_read hrow _

/-- R195: `isEmpty` in the status byte of an empty queue is 1. -/
theorem queueStatusByte_of_isEmpty {q : Queue} (hempty : q.isEmpty = true) :
    (queueStatusByte q).getLsbD 6 = true := by
  obtain ⟨-, hbit, -⟩ := queueStatusByte_bits q
  rw [hbit, hempty]

/-! ### The statements -/

/-- Settles O10, by induction on the number of steps: the first step answers a next state, and the rest runs on from
there. -/
theorem runsNeverStop : Obligations.RunsNeverStop := by
  unfold Obligations.RunsNeverStop
  intro s k
  induction k generalizing s with
  | zero => exact ⟨s, core_run_zero s⟩
  | succ k ih =>
    obtain ⟨t, ht⟩ := step_total s
    rw [core_run_succ ht]
    exact ih t

/-- Settles O57: the rows of the read-only bytes discard what is written, and the rows of the four mixed bytes look at
their writable bits alone. -/
theorem readOnlyWritesAreNoException : Obligations.ReadOnlyWritesAreNoException := by
  unfold Obligations.ReadOnlyWritesAreNoException
  constructor
  · intro s a v ha
    have hmap : a.toNat < Config.mapSize := by
      rw [Config.mapSize]
      omega
    rw [step_write_one hmap]
    exact ⟨_, exec_decodeWrite_readOnly ha _ v, rfl, rfl⟩
  · intro s v w
    obtain ⟨t, ht, htok⟩ := step_write_one_ok (a := 0x00) (by decide) s v
    obtain ⟨u, hu, huok⟩ := step_write_one_ok (a := 0x03) (by decide) s v
    obtain ⟨x, hx, hxok⟩ := step_write_one_ok (a := 0x04) (by decide) s v
    obtain ⟨y, hy, hyok⟩ := step_write_one_ok (a := 0x0D) (by decide) s v
    exact ⟨fun hclicked => exec_wrButtonStatus_congr hclicked s,
      fun hpressed hclicked hstatus => exec_wrInterruptConfig_congr hpressed hclicked hstatus s,
      fun hpop => ⟨exec_wrPressedQueueStatus_congr hpop s, exec_wrClickedQueueStatus_congr hpop s⟩,
      t, u, x, y, ht, htok, hu, huok, hx, hxok, hy, hyok⟩

/-- Settles O58: the WRITE is the row of the queue's status register, which leaves an empty queue as it is. -/
theorem popOfEmptyQueueIsNoException : Obligations.PopOfEmptyQueueIsNoException := by
  unfold Obligations.PopOfEmptyQueueIsNoException
  intro s v _
  refine ⟨fun hempty => ?_, fun hempty => ?_⟩
  · rw [step_write_one (a := 0x04) (by decide)]
    refine QueueRows.pressed.exec_statusWrite_of_isEmpty ?_ v
    exact hempty
  · rw [step_write_one (a := 0x0D) (by decide)]
    refine QueueRows.clicked.exec_statusWrite_of_isEmpty ?_ v
    exact hempty

/-- Settles O59: a view lies in the map, and the queue's status byte carries `isEmpty`. -/
theorem readOfEmptyViewIsNoException : Obligations.ReadOfEmptyViewIsNoException := by
  unfold Obligations.ReadOfEmptyViewIsNoException
  intro s a
  have hmap : a.toNat ≤ 21 → a.toNat < Config.mapSize := fun hle => hle.trans_lt (by decide)
  refine ⟨fun ⟨_, hle, hempty⟩ => ?_, fun ⟨_, hle, hempty⟩ => ?_⟩
  · exact ⟨step_read_one_inMap (hmap (by omega)) s, _, rfl, queueStatusByte_of_isEmpty hempty⟩
  · exact ⟨step_read_one_inMap (hmap hle) s, _, rfl, queueStatusByte_of_isEmpty hempty⟩

end Sys2Proof.Machine
end

section
/-! SUPPORT. The address decoder and the encoder (30_encoding.md sections 1 and 5; layout: log 10). Where an address
lies is said once, for both directions: it is one of the 32 rows of the map or lies in exactly one of the three ranges
outside it. The bytes of the encoder are decoded once for each format. -/

namespace Sys2Proof

/-! ### Which row an address selects (30_encoding.md R80) -/

/-- Outside the map the three ranges of R80 overlap nowhere and leave no address out. -/
theorem inRow_outOfMap_cases {a : Offset} (ha : Config.mapSize ≤ a.toNat) :
    (Map.inRow Map.outOfRange0 a = true ∧ Map.inRow Map.outOfRange1 a = false ∧ Map.inRow Map.outOfRange2 a = false) ∨
    (Map.inRow Map.outOfRange0 a = false ∧ Map.inRow Map.outOfRange1 a = true ∧ Map.inRow Map.outOfRange2 a = false) ∨
    (Map.inRow Map.outOfRange0 a = false ∧ Map.inRow Map.outOfRange1 a = false ∧
      Map.inRow Map.outOfRange2 a = true) := by
  revert a
  decide

/-- No range of R80 reaches into the map. -/
theorem inRow_inMap {a : Offset} (ha : a.toNat < Config.mapSize) :
    Map.inRow Map.outOfRange0 a = false ∧ Map.inRow Map.outOfRange1 a = false ∧
      Map.inRow Map.outOfRange2 a = false := by
  revert a
  decide

/-- An address of the map selects its row of `byteRows`, in both directions. -/
theorem decode_inMap {a : Offset} (ha : a.toNat < Config.mapSize) :
    ∃ row ∈ byteRows, row.1 = a.toNat ∧ decodeRead a = row.2.1 ∧ ∀ v, decodeWrite a v = row.2.2 v := by
  obtain ⟨⟨r, w⟩, hlookup⟩ := Option.isSome_iff_exists.1 (byteRows_lookup_isSome ha)
  obtain ⟨before, after, hsplit, -⟩ := List.lookup_eq_some_iff.1 hlookup
  exact ⟨(a.toNat, r, w), by simp [hsplit], rfl, by simp [decodeRead, hlookup], by simp [decodeWrite, hlookup]⟩

/-- An address in one of the three ranges selects the row of that range, in both directions. -/
theorem decode_of_inRow (a : Offset) :
    (Map.inRow Map.outOfRange0 a = true → decodeRead a = .rdOor0 a ∧ ∀ v, decodeWrite a v = .wrOor0 a v) ∧
    (Map.inRow Map.outOfRange1 a = true → decodeRead a = .rdOor1 a ∧ ∀ v, decodeWrite a v = .wrOor1 a v) ∧
    (Map.inRow Map.outOfRange2 a = true → decodeRead a = .rdOor2 a ∧ ∀ v, decodeWrite a v = .wrOor2 a v) := by
  rcases lt_or_ge a.toNat Config.mapSize with hin | hout
  · simp [inRow_inMap hin]
  · have hlookup := byteRows_lookup_outOfMap hout
    rcases inRow_outOfMap_cases hout with ⟨h0, h1, h2⟩ | ⟨h0, h1, h2⟩ | ⟨h0, h1, h2⟩ <;>
      simp [decodeRead, decodeWrite, hlookup, h0, h1, h2]

/-- An address outside the map selects the row of the range it lies in, in both directions. -/
theorem decode_outOfMap {a : Offset} (ha : Config.mapSize ≤ a.toNat) :
    (Map.inRow Map.outOfRange0 a = true ∧ decodeRead a = .rdOor0 a ∧ ∀ v, decodeWrite a v = .wrOor0 a v) ∨
    (Map.inRow Map.outOfRange1 a = true ∧ decodeRead a = .rdOor1 a ∧ ∀ v, decodeWrite a v = .wrOor1 a v) ∨
    (Map.inRow Map.outOfRange2 a = true ∧ decodeRead a = .rdOor2 a ∧ ∀ v, decodeWrite a v = .wrOor2 a v) := by
  obtain ⟨hrow0, hrow1, hrow2⟩ := decode_of_inRow a
  rcases inRow_outOfMap_cases ha with ⟨h0, -, -⟩ | ⟨-, h1, -⟩ | ⟨-, -, h2⟩
  · exact .inl ⟨h0, hrow0 h0⟩
  · exact .inr (.inl ⟨h1, hrow1 h1⟩)
  · exact .inr (.inr ⟨h2, hrow2 h2⟩)

/-! ### What the bytes of an operation decode to (30_encoding.md R70 to R72; log 10) -/

theorem decode_readBytesOf {a : Offset} {i : Instr} (hread : decodeRead a = i) :
    decode (readBytesOf a).1 (readBytesOf a).2 = .ok i :=
  congrArg Except.ok ((decodeKey_keyOf_one a 0).trans hread)

theorem decode_writeBytesOf {a : Offset} {v : Byte} {i : Instr} (hwrite : decodeWrite a v = i) :
    decode (writeBytesOf a v).1 (writeBytesOf a v).2 = .ok i :=
  congrArg Except.ok ((decodeKey_keyOf_zero a v).trans hwrite)

theorem decode_eventBytesOf (kind : Byte) (ts : Timestamp) :
    decode (eventBytesOf kind ts).1 (eventBytesOf kind ts).2 = .ok (decodeEvent (kind.setWidth 1) ts) :=
  congrArg (fun w => Except.ok (decodeEvent (kind.setWidth 1) w)) (leWord_leByte ts)

/-- The ten bytes of a configuration vector give it back (log 10). -/
theorem cfgOfBytes_cfgBytesOf (cfg : Cfg) : decode .rst (cfgBytesOf cfg) = .ok (.reset cfg) := by
  obtain ⟨debounce, pressed, clicked, brightness, granularity, cycle, off, address⟩ := cfg
  have henables : (0#6 ++ BitVec.ofBool clicked ++ BitVec.ofBool pressed).getLsbD 0 = pressed ∧
      (0#6 ++ BitVec.ofBool clicked ++ BitVec.ofBool pressed).getLsbD 1 = clicked := by
    revert clicked pressed
    decide
  simp only [decode, cfgBytesOf, cfgOfBytes, halfOf_highByte_lowByte, henables]

/-! ### The bytes the encoder writes (30_encoding.md R80) -/

/-- The rows of an address of the map are well formed, and the encoder writes that address for them. -/
theorem encode_byteRows {row : Nat × Instr × (Byte → Instr)} (hrow : row ∈ byteRows) (v : Byte) :
    row.2.1.wellFormed = true ∧ (row.2.2 v).wellFormed = true ∧
      encode row.2.1 = readBytesOf (BitVec.ofNat 8 row.1) ∧
      encode (row.2.2 v) = writeBytesOf (BitVec.ofNat 8 row.1) v := by
  unfold byteRows at hrow
  fin_cases hrow <;> exact ⟨rfl, rfl, rfl, rfl⟩

/-- The row of opcode_table.json of an address of the map, in both directions. -/
theorem row_byteRows {row : Nat × Instr × (Byte → Instr)} (hrow : row ∈ byteRows) (v : Byte) :
    row.2.1.row = exactRow Map.rwRead row.1 0 ∧ (row.2.2 v).row = exactRow Map.rwWrite row.1 0 := by
  unfold byteRows at hrow
  fin_cases hrow <;> exact ⟨rfl, rfl⟩

/-- What an address decodes to is well formed, and the encoder gives the address and the written byte back. -/
theorem encode_decode (a : Offset) (v : Byte) :
    (decodeRead a).wellFormed = true ∧ (decodeWrite a v).wellFormed = true ∧
      encode (decodeRead a) = readBytesOf a ∧ encode (decodeWrite a v) = writeBytesOf a v := by
  rcases lt_or_ge a.toNat Config.mapSize with hin | hout
  · obtain ⟨row, hrow, haddr, hread, hwrite⟩ := decode_inMap hin
    have hbytes := encode_byteRows hrow v
    rwa [haddr, BitVec.ofNat_toNat, BitVec.setWidth_eq, ← hread, ← hwrite] at hbytes
  · rcases decode_outOfMap hout with ⟨hwf, hread, hwrite⟩ | ⟨hwf, hread, hwrite⟩ | ⟨hwf, hread, hwrite⟩ <;>
      rw [hread, hwrite] <;> exact ⟨hwf, hwf, rfl, rfl⟩

/-! ### The rows that apply to a key (30_encoding.md R71, R80) -/

theorem keyOf_inj {rw rw' : BitVec 1} {a a' : Offset} : keyOf rw a = keyOf rw' a' ↔ rw = rw' ∧ a = a' := by
  constructor
  · intro h
    have hrw : (keyOf rw a).extractLsb' 8 1 = (keyOf rw' a').extractLsb' 8 1 := congrArg _ h
    have haddr : (keyOf rw a).setWidth 8 = (keyOf rw' a').setWidth 8 := congrArg _ h
    rw [keyOf, keyOf, BitVec.extractLsb'_append_eq_left, BitVec.extractLsb'_append_eq_left] at hrw
    rw [keyOf, keyOf, BitVec.setWidth_append_eq_right, BitVec.setWidth_append_eq_right] at haddr
    exact ⟨hrw, haddr⟩
  · rintro ⟨rfl, rfl⟩
    rfl

/-- Every key is a direction and an address. -/
theorem eq_keyOf (key : Key) : key = keyOf (key.extractLsb' 8 1) (key.setWidth 8) := by
  revert key
  decide

theorem rowApplies_rangeRow (rw rw' : BitVec 1) (a : Offset) (range : Offset × Offset) :
    rowApplies (keyOf rw a) (rangeRow rw' range) = (rw == rw' && Map.inRow range a) := by
  have hmask : keyOf rw a &&& keyOf 1#1 range.2 = keyOf rw (a &&& range.2) := by
    rw [keyOf, keyOf, BitVec.and_append, show rw &&& 1#1 = rw from BitVec.and_allOnes]
    rfl
  rw [Bool.eq_iff_iff]
  simp [rowApplies, rangeRow, Map.inRow, hmask, keyOf_inj]

theorem rowApplies_exactRow (rw rw' : BitVec 1) (a : Offset) (n : Nat) :
    rowApplies (keyOf rw a) (exactRow rw' n 0) = (rw == rw' && a == BitVec.ofNat 8 n) := by
  have hmask : a &&& Map.exactMask = a := BitVec.and_allOnes
  change rowApplies (keyOf rw a) (rangeRow rw' (BitVec.ofNat 8 n, Map.exactMask)) = _
  rw [rowApplies_rangeRow, Map.inRow, hmask]

/-- The 35 rows of one direction, in the order of `requestRows`. -/
def directionRows (rw : BitVec 1) : List (Key × Key) :=
  (List.range Config.mapSize).map (fun n => exactRow rw n 0) ++
    [rangeRow rw Map.outOfRange0, rangeRow rw Map.outOfRange1, rangeRow rw Map.outOfRange2]

theorem requestRows_eq : requestRows = directionRows Map.rwRead ++ directionRows Map.rwWrite := rfl

theorem filter_directionRows_other {rw rw' : BitVec 1} (hne : rw ≠ rw') (a : Offset) :
    (directionRows rw').filter (rowApplies (keyOf rw a)) = [] := by
  simp [directionRows, rowApplies_rangeRow, rowApplies_exactRow, hne, List.filter_eq_nil_iff]

theorem filter_exactRows (rw : BitVec 1) (a : Offset) :
    ((List.range Config.mapSize).map (fun n => exactRow rw n 0)).filter (rowApplies (keyOf rw a)) =
      if a.toNat < Config.mapSize then [exactRow rw a.toNat 0] else [] := by
  have hsame : ∀ n ∈ List.range Config.mapSize,
      (rowApplies (keyOf rw a) ∘ fun n => exactRow rw n 0) n = (n == a.toNat) := by
    intro n hn
    rw [Function.comp_apply, rowApplies_exactRow, Bool.eq_iff_iff]
    simp [Config.mapSize] at hn ⊢
    bv_omega
  rw [List.filter_map, List.filter_congr hsame, List.filter_beq]
  split
  case isTrue hin =>
    rw [List.count_eq_one_of_mem List.nodup_range (List.mem_range.2 hin)]
    rfl
  case isFalse hout =>
    rw [List.count_eq_zero_of_not_mem (mt List.mem_range.1 hout)]
    rfl

/-- The row of what an address decodes to, and that no other row of its direction applies (R80). -/
theorem filter_directionRows_self (a : Offset) (v : Byte) :
    (directionRows Map.rwRead).filter (rowApplies (keyOf Map.rwRead a)) = [(decodeRead a).row] ∧
    (directionRows Map.rwWrite).filter (rowApplies (keyOf Map.rwWrite a)) = [(decodeWrite a v).row] := by
  rcases lt_or_ge a.toNat Config.mapSize with hin | hout
  · obtain ⟨h0, h1, h2⟩ := inRow_inMap hin
    obtain ⟨row, hrow, haddr, hread, hwrite⟩ := decode_inMap hin
    obtain ⟨hrowRead, hrowWrite⟩ := row_byteRows hrow v
    rw [hread, hwrite, hrowRead, hrowWrite, haddr]
    simp [directionRows, filter_exactRows, rowApplies_rangeRow, hin, h0, h1, h2]
  · have hnone := hout.not_gt
    obtain ⟨hrow0, hrow1, hrow2⟩ := decode_of_inRow a
    rcases inRow_outOfMap_cases hout with ⟨h0, h1, h2⟩ | ⟨h0, h1, h2⟩ | ⟨h0, h1, h2⟩
    · simp [directionRows, filter_exactRows, rowApplies_rangeRow, hnone, h0, h1, h2, hrow0 h0, Instr.row]
    · simp [directionRows, filter_exactRows, rowApplies_rangeRow, hnone, h0, h1, h2, hrow1 h1, Instr.row]
    · simp [directionRows, filter_exactRows, rowApplies_rangeRow, hnone, h0, h1, h2, hrow2 h2, Instr.row]

end Sys2Proof

namespace Sys2Proof.Machine

/-! ### The statements -/

/-- Settles O5, by the rows of `Instr`: an out-of-range row by the range its address lies in, the events and RESET by
the round trip of their bytes, and each of the 64 rows of the map by looking its address up. -/
theorem decodeOfEncodeIsTheInstruction : Obligations.DecodeOfEncodeIsTheInstruction := by
  unfold Obligations.DecodeOfEncodeIsTheInstruction
  intro i hwf
  cases i with
  | rdOor0 a =>
    obtain ⟨hrow, -, -⟩ := decode_of_inRow a
    obtain ⟨hread, -⟩ := hrow hwf
    exact decode_readBytesOf hread
  | rdOor1 a =>
    obtain ⟨-, hrow, -⟩ := decode_of_inRow a
    obtain ⟨hread, -⟩ := hrow hwf
    exact decode_readBytesOf hread
  | rdOor2 a =>
    obtain ⟨-, -, hrow⟩ := decode_of_inRow a
    obtain ⟨hread, -⟩ := hrow hwf
    exact decode_readBytesOf hread
  | wrOor0 a v =>
    obtain ⟨hrow, -, -⟩ := decode_of_inRow a
    obtain ⟨-, hwrite⟩ := hrow hwf
    exact decode_writeBytesOf (hwrite v)
  | wrOor1 a v =>
    obtain ⟨-, hrow, -⟩ := decode_of_inRow a
    obtain ⟨-, hwrite⟩ := hrow hwf
    exact decode_writeBytesOf (hwrite v)
  | wrOor2 a v =>
    obtain ⟨-, -, hrow⟩ := decode_of_inRow a
    obtain ⟨-, hwrite⟩ := hrow hwf
    exact decode_writeBytesOf (hwrite v)
  | evPress ts => exact decode_eventBytesOf (Map.kindPress.setWidth 8) ts
  | evClick ts => exact decode_eventBytesOf (Map.kindClick.setWidth 8) ts
  | reset cfg => exact cfgOfBytes_cfgBytesOf cfg
  | _ => rfl

/-- Settles O6: what an address decodes to is encoded as that address and the written byte. -/
theorem encodeOfDecodedRequestIsItsBytes : Obligations.EncodeOfDecodedRequestIsItsBytes := by
  unfold Obligations.EncodeOfDecodedRequestIsItsBytes
  intro a v
  rw [decodeKey_keyOf_one, decodeKey_keyOf_zero]
  exact encode_decode a v

/-- Settles O4: each word's key is looked up in the table. -/
theorem tableWordsDecodeToTheirRows : Obligations.TableWordsDecodeToTheirRows := by
  unfold Obligations.TableWordsDecodeToTheirRows
  decide

/-- Settles O7: a key is a direction and an address; no row of the other direction applies, and of its own direction
exactly the row of what the address decodes to. -/
theorem requestRowsAreDisjointAndCoverAllKeys : Obligations.RequestRowsAreDisjointAndCoverAllKeys := by
  unfold Obligations.RequestRowsAreDisjointAndCoverAllKeys
  intro key
  rw [eq_keyOf key, requestRows_eq, List.filter_append]
  generalize key.setWidth 8 = a
  obtain ⟨hread, hwrite⟩ := filter_directionRows_self a 0
  obtain hrw | hrw : key.extractLsb' 8 1 = Map.rwRead ∨ key.extractLsb' 8 1 = Map.rwWrite :=
    (BitVec.eq_zero_or_eq_one _).symm
  · rw [hrw, hread, filter_directionRows_other (by decide), decodeKey_keyOf_one, List.append_nil]
  · rw [hrw, hwrite, filter_directionRows_other (by decide), decodeKey_keyOf_zero, List.nil_append]

/-- Settles O47: outside the map an address decodes to the row of its range, and each of those rows rejects. -/
theorem outOfRangeRowsReject : Obligations.OutOfRangeRowsReject := by
  unfold Obligations.OutOfRangeRowsReject
  intro s a v
  rw [decodeKey_keyOf_one, decodeKey_keyOf_zero]
  refine ⟨fun hout => ⟨decodeRead_outOfMap hout, decodeWrite_outOfMap hout v⟩, fun i hi => ?_⟩
  fin_cases hi <;> rfl

end Sys2Proof.Machine
end

section
/-! SUPPORT. What one row does to the block: which elements of the block it looks at (92_eei_decisions.md D12), what it
does to the two queues as lists (40_queue.md R99, R103) and to the latch in the two-latch reading
(43_events_interrupt.md R176), and the rows whose statement gives the whole next state. -/

namespace Sys2Proof.Machine

/-! ### The bits of a written byte -/

theorem bitOf_eq_getLsbD (v : Byte) (n : Nat) : bitOf v n = v.getLsbD n := by
  rw [bitOf, BitVec.getLsbD, Nat.testBit_eq_decide_div_mod_eq]
  rfl

/-- A write-0-to-clear flag as a choice (00_scope.md R15). -/
theorem w0c_eq_ite (old written : Bool) : w0c old written = if written then old else false := by
  cases written <;> simp [w0c]

/-- The latch after an event as a choice (43_events_interrupt.md R173). -/
theorem latchAfterEvent_eq_ite (status enable : Bool) :
    latchAfterEvent status enable = if enable then true else status := by
  cases enable <;> simp [latchAfterEvent]

/-! ### The queues as lists (40_queue.md R99) -/

theorem Queue.push_contents_eq_listPush {q : Queue} (hwf : q.Wf) (ts : Timestamp) :
    (q.push ts).contents = listPush q.contents ts := by
  rw [Queue.push_contents hwf, listPush, Queue.contents_length]
  split <;> rfl

theorem Queue.request_contents {q : Queue} (hwf : q.Wf) (v : Byte) :
    (q.request v).contents = if bitOf v Map.popRequestBit then q.contents.tail else q.contents := by
  rw [bitOf_eq_getLsbD]
  rcases q.request_cases v with ⟨hbit, hrequest⟩ | ⟨hbit, hrequest⟩
  · rw [hrequest, Queue.pop_contents hwf, if_pos hbit]
  · rw [hrequest, if_neg (Bool.eq_false_iff.1 hbit)]

theorem Queue.fresh_contents (n : Nat) : (Queue.fresh n).contents = [] :=
  (Queue.fresh n).isEmpty_iff_contents_eq_nil.1 rfl

/-- A `popRequest` write takes one entry, if there is one (42_bus_write.md R145, R148). -/
theorem Queue.pop_size_eq {q : Queue} (hwf : q.Wf) : q.pop.size = q.size - 1 := by
  rw [← Queue.contents_length, Queue.pop_contents hwf, List.length_tail, Queue.contents_length]

/-- The byte read from a queue's status register never has `popRequest` (30_encoding.md R78). -/
theorem queueStatusByte_popRequest (q : Queue) : (queueStatusByte q).getLsbD 7 = false := by
  obtain ⟨-, -, hpop, -⟩ := queueStatusByte_bits q
  exact hpop

/-! ### The views of an empty queue (40_queue.md R94, R95; decision D12) -/

/-- `front` and `back`, the two ends of a queue that a view shows. -/
inductive Peek : (Queue → Timestamp → Timestamp) → Prop
  | front : Peek Queue.front
  | back : Peek Queue.back

theorem Peek.of_isEmpty {peek : Queue → Timestamp → Timestamp} (hpeek : Peek peek) {q : Queue}
    (hempty : q.isEmpty = true) (anyTs : Timestamp) : peek q anyTs = anyTs := by
  cases hpeek
  · simp [Queue.front, hempty]
  · simp [Queue.back, hempty]

/-- R116: a row that shows an end of an empty queue answers a byte of a draw of its own. -/
theorem exec_view_of_isEmpty {i : Instr} {q : Queue} {s : State} {j : Nat} (hempty : q.isEmpty = true)
    (hview : ∃ peek, Peek peek ∧ exec i s = .next (s.respondView q peek j)) :
    exec i s = .next ((s.respond (leByte s.nextAny j)).drawn 1) := by
  obtain ⟨peek, hpeek, hexec⟩ := hview
  rw [hexec, State.respondView, hpeek.of_isEmpty hempty, if_pos hempty]

/-! ### The two latches (43_events_interrupt.md R176) -/

/-- A row that is none of the pressed kind's leaves that kind's latch. -/
theorem latchStepP_of_other {i : Instr} (hevent : ∀ ts, i ≠ .evPress ts) (hwrite : ∀ v, i ≠ .wrInterruptConfig v)
    (hreset : ∀ cfg, i ≠ .reset cfg) (enable pend : Bool) : latchStepP i enable pend = pend := by
  cases i with
  | evPress ts => exact absurd rfl (hevent ts)
  | wrInterruptConfig v => exact absurd rfl (hwrite v)
  | reset cfg => exact absurd rfl (hreset cfg)
  | _ => rfl

/-- A row that is none of the clicked kind's leaves that kind's latch. -/
theorem latchStepC_of_other {i : Instr} (hevent : ∀ ts, i ≠ .evClick ts) (hwrite : ∀ v, i ≠ .wrInterruptConfig v)
    (hreset : ∀ cfg, i ≠ .reset cfg) (enable pend : Bool) : latchStepC i enable pend = pend := by
  cases i with
  | evClick ts => exact absurd rfl (hevent ts)
  | wrInterruptConfig v => exact absurd rfl (hwrite v)
  | reset cfg => exact absurd rfl (hreset cfg)
  | _ => rfl

/-! ### The statements -/

/-- Settles O18: each port is its cell; `int_pending` is the latch as a bit. -/
theorem outputPortsMirrorTheCells : Obligations.OutputPortsMirrorTheCells := by
  unfold Obligations.OutputPortsMirrorTheCells
  intro s
  refine ⟨?_, rfl, rfl, rfl, rfl, rfl, rfl⟩
  rw [State.intPending]
  cases s.blk.status <;> rfl

/-- Settles O24: for states of one block, every row but RESET computes the next block from that block. -/
theorem blockDependsOnTheBlockAlone : Obligations.BlockDependsOnTheBlockAlone := by
  unfold Obligations.BlockDependsOnTheBlockAlone
  rintro i ⟨b⟩ ⟨b'⟩ t t' hreset (rfl : b = b') h h'
  cases i with
  | reset cfg => exact absurd rfl (hreset cfg)
  | _ =>
    cases h
    cases h'
    rfl

/-- Settles O25: a push, a `popRequest` and RESET are those of lists, and no other row touches a queue. -/
theorem queuesRefineLists : Obligations.QueuesRefineLists := by
  unfold Obligations.QueuesRefineLists
  rintro i s t ⟨hP, hC⟩ h
  cases i with
  | evPress ts =>
    cases h
    exact ⟨Queue.push_contents_eq_listPush hP ts, rfl⟩
  | evClick ts =>
    cases h
    exact ⟨rfl, Queue.push_contents_eq_listPush hC ts⟩
  | wrPressedQueueStatus v =>
    cases h
    exact ⟨Queue.request_contents hP v, rfl⟩
  | wrClickedQueueStatus v =>
    cases h
    exact ⟨rfl, Queue.request_contents hC v⟩
  | reset cfg =>
    cases h
    exact ⟨Queue.fresh_contents _, Queue.fresh_contents _⟩
  | _ =>
    cases h
    exact ⟨rfl, rfl⟩

/-- Settles O29: the ends of `contents` are `front` and `back`; a row of a view of an empty queue answers a byte of the
next draw. -/
theorem frontIsNewestAndBackIsOldest : Obligations.FrontIsNewestAndBackIsOldest := by
  unfold Obligations.FrontIsNewestAndBackIsOldest
  constructor
  · intro q anyTs hwf
    cases hempty : q.isEmpty with
    | true =>
      rw [Peek.front.of_isEmpty hempty, Peek.back.of_isEmpty hempty, q.isEmpty_iff_contents_eq_nil.1 hempty]
      exact ⟨rfl, rfl⟩
    | false =>
      rw [Queue.contents_getLast? hwf hempty anyTs, Queue.contents_head? hempty anyTs]
      exact ⟨rfl, rfl⟩
  · rintro s i j (⟨hempty, hlist⟩ | ⟨hempty, hlist⟩)
    · refine exec_view_of_isEmpty hempty ?_
      fin_cases hlist
      iterate 4 exact ⟨_, .front, rfl⟩
      iterate 4 exact ⟨_, .back, rfl⟩
    · refine exec_view_of_isEmpty hempty ?_
      fin_cases hlist
      iterate 4 exact ⟨_, .front, rfl⟩
      iterate 4 exact ⟨_, .back, rfl⟩

/-- Settles O35: an event raises the latch of its kind as its enable says, the acknowledge and RESET act on both latches
alike, and every other row leaves all three. -/
theorem oneLatchIsTheOrOfTwo : Obligations.OneLatchIsTheOrOfTwo := by
  unfold Obligations.OneLatchIsTheOrOfTwo
  intro i s t pendP pendC hor h
  rcases exec_status_cases h with ⟨ts, rfl, hstatus⟩ | ⟨ts, rfl, hstatus⟩ | ⟨v, rfl, hstatus⟩ | ⟨cfg, rfl, hstatus⟩ |
    ⟨hpress, hclick, hwrite, hreset, hstatus⟩
  · change t.blk.status = (pendP || s.blk.pressedEnable || pendC)
    rw [hstatus, hor, Bool.or_right_comm]
  · change t.blk.status = (pendP || (pendC || s.blk.clickedEnable))
    rw [hstatus, hor, Bool.or_assoc]
  · rw [hstatus, hor, latchStepP, latchStepC, bitOf_eq_getLsbD, Bool.and_or_distrib_right]
  · rw [hstatus, latchStepP, latchStepC, Bool.or_self]
  · rw [hstatus, hor, latchStepP_of_other hpress hwrite hreset, latchStepC_of_other hclick hwrite hreset]

/-- Settles O36: what the row raises is the latch or the pressed enable. -/
theorem pressPushesAndMayRaise : Obligations.PressPushesAndMayRaise := by
  unfold Obligations.PressPushesAndMayRaise
  intro ts s
  rw [← latchAfterEvent_eq_ite]
  exact ⟨rfl, rfl⟩

/-- Settles O37: what the row raises is the latch or the clicked enable. -/
theorem clickPushesAndMayRaise : Obligations.ClickPushesAndMayRaise := by
  unfold Obligations.ClickPushesAndMayRaise
  intro ts s
  rw [← latchAfterEvent_eq_ite]
  exact ⟨rfl, rfl⟩

/-- Settles O38: the slots are the draws of the two fresh queues. -/
theorem resetLoadsCfgAndEmptiesQueues : Obligations.ResetLoadsCfgAndEmptiesQueues := by
  unfold Obligations.ResetLoadsCfgAndEmptiesQueues
  intro cfg s
  exact ⟨(Queue.fresh s.draws).buf, (Queue.fresh (s.draws + Config.capacity)).buf, s.draws + 2 * Config.capacity, rfl⟩

/-- Settles O48: the row writes `hasBeenClicked` 0 to clear. -/
theorem writeButtonStatus : Obligations.WriteButtonStatus := by
  unfold Obligations.WriteButtonStatus
  intro s v
  rw [← w0c_eq_ite]
  exact ⟨rfl, rfl⟩

/-- Settles O50: the row stores the enables and writes the latch 0 to clear. -/
theorem writeInterruptConfig : Obligations.WriteInterruptConfig := by
  unfold Obligations.WriteInterruptConfig
  intro s v
  rw [← w0c_eq_ite]
  exact ⟨rfl, rfl⟩

/-- Settles O51: each row makes the request of its own queue, a 1 in bit 7 pops that queue once, and `popRequest` is not
a bit of the byte read next. -/
theorem writeQueueStatusPopsOne : Obligations.WriteQueueStatusPopsOne := by
  unfold Obligations.WriteQueueStatusPopsOne
  intro s v
  refine ⟨⟨rfl, rfl, fun hwf hbit => ⟨_, _, rfl, ?_, rfl, _, rfl, queueStatusByte_popRequest _⟩⟩,
    rfl, rfl, fun hwf hbit => ⟨_, _, rfl, ?_, rfl, _, rfl, queueStatusByte_popRequest _⟩⟩
  · rw [← Queue.pop_size_eq hwf]
    exact congrArg Queue.size (if_pos hbit)
  · rw [← Queue.pop_size_eq hwf]
    exact congrArg Queue.size (if_pos hbit)

/-- Settles O55: the row stores the byte in the cell that the port shows. -/
theorem writeI2cAddress : Obligations.WriteI2cAddress := by
  unfold Obligations.WriteI2cAddress
  intro s v
  exact ⟨rfl, rfl, _, rfl, rfl⟩

end Sys2Proof.Machine
end

section
/-! SUPPORT. The register map and the requests served in one step (20_memory.md R50 to R54, R58; 41_bus_read.md R110;
42_bus_write.md R140). What a byte written in the map does is said once, cell by cell, and is the table's write column;
what a byte of the map reads as is the table's read column; the service of a request is then an induction on its
bytes. -/

namespace Sys2Proof.Machine

/-! ### What a written byte does, cell by cell (42_bus_write.md R141 to R158) -/

/-- A cell that the byte at `addr` writes by `f` and no other byte does, after byte `v` is written at `a`. -/
def writeAt {α : Type} (addr : Nat) (f : Byte → α → α) (a : Nat) (v : Byte) (x : α) : α :=
  if a = addr then f v x else x

/-- A 16-bit cell at `base`, after byte `v` is written at `a` (R143). -/
def writeHalfAt (base a : Nat) (v : Byte) (w : Half) : Half :=
  writeAt (base + 1) (fun v w => setHighByte w v) a v (writeAt base (fun v w => setLowByte w v) a v w)

/-- The block after byte `v` is written at `a`, cell by cell. -/
def Block.writeCells (b : Block) (a : Nat) (v : Byte) : Block :=
  { isPressed := b.isPressed
    hasBeenClicked := writeAt Map.buttonStatus (fun v f => w0c f (writtenHasBeenClicked v)) a v b.hasBeenClicked
    debounce := writeHalfAt Map.buttonDebounceTime a v b.debounce
    pressedEnable := writeAt Map.interruptConfig (fun v _ => writtenPressedEnable v) a v b.pressedEnable
    clickedEnable := writeAt Map.interruptConfig (fun v _ => writtenClickedEnable v) a v b.clickedEnable
    status := writeAt Map.interruptConfig (fun v f => w0c f (writtenStatus v)) a v b.status
    queueP := writeAt Map.pressedQueueStatus (fun v q => q.request v) a v b.queueP
    queueC := writeAt Map.clickedQueueStatus (fun v q => q.request v) a v b.queueC
    ledBrightness := writeAt Map.ledBrightness (fun v _ => v) a v b.ledBrightness
    ledPulseGranularity := writeAt Map.ledPulseGranularity (fun v _ => v) a v b.ledPulseGranularity
    ledPulseCycleTime := writeHalfAt Map.ledPulseCycleTime a v b.ledPulseCycleTime
    ledPulseOffTime := writeHalfAt Map.ledPulseOffTime a v b.ledPulseOffTime
    i2cAddress := writeAt Map.i2cAddress (fun v _ => v) a v b.i2cAddress }

/-- The WRITE row of an address of the map writes the cells of that address. -/
theorem exec_byteRows_writeCells {row : Nat × Instr × (Byte → Instr)} (hrow : row ∈ byteRows) (s : State) (v : Byte) :
    exec (row.2.2 v) s = .next (s.setBlk (s.blk.writeCells row.1 v)) := by
  unfold byteRows at hrow
  fin_cases hrow <;> rfl

/-- The write column of the table (30_encoding.md R74), cell by cell. -/
theorem Block.mapWrite_eq_writeCells (b : Block) {a : Nat} (ha : a < Config.mapSize) (v : Byte) :
    b.mapWrite a v = b.writeCells a v := by
  obtain rfl | rfl | rfl | rfl | ⟨hlo, hhi⟩ | ⟨hlo, hhi⟩ | ⟨hlo, hhi⟩ : a = 0x00 ∨ a = 0x03 ∨ a = 0x04 ∨ a = 0x0D ∨
      (0x01 ≤ a ∧ a < 0x03) ∨ (0x05 ≤ a ∧ a < 0x0D) ∨ (0x0E ≤ a ∧ a < 0x20) := by
    simp only [Config.mapSize] at ha
    omega
  · rw [Block.mapWrite_00, bitOf_eq_getLsbD]
    rfl
  · rw [Block.mapWrite_03, bitOf_eq_getLsbD, bitOf_eq_getLsbD, bitOf_eq_getLsbD]
    rfl
  · rw [Block.mapWrite_04, bitOf_eq_getLsbD]
    exact (apply_ite (fun q => ({ b with queueP := q } : Block)) _ b.queueP.pop b.queueP).symm
  · rw [Block.mapWrite_0D, bitOf_eq_getLsbD]
    exact (apply_ite (fun q => ({ b with queueC := q } : Block)) _ b.queueC.pop b.queueC).symm
  all_goals
    interval_cases a <;>
      simp [Block.writeCells, writeAt, writeHalfAt, ← setLowByte_eq_storeByte, ← setHighByte_eq_storeByte]

/-- The WRITE of an address of the map does what the write column of the table says (42_bus_write.md R141). -/
theorem exec_decodeWrite_mapWrite {a : Offset} (ha : a.toNat < Config.mapSize) (s : State) (v : Byte) :
    exec (decodeWrite a v) s = .next (s.setBlk (s.blk.mapWrite a.toNat v)) := by
  obtain ⟨row, hrow, haddr, -, hwrite⟩ := decode_inMap ha
  rw [hwrite, exec_byteRows_writeCells hrow, haddr, Block.mapWrite_eq_writeCells _ ha]

/-! ### Bytes written to different addresses (92_eei_decisions.md note 1) -/

/-- Writes by functions that commute can be made in either order, whatever their addresses. -/
theorem writeAt_comm_of_commute {α : Type} {f g : Byte → α → α} (hfg : ∀ v v' x, g v' (f v x) = f v (g v' x))
    (addr addr' a a' : Nat) (v v' : Byte) (x : α) :
    writeAt addr' g a' v' (writeAt addr f a v x) = writeAt addr f a v (writeAt addr' g a' v' x) := by
  by_cases h : a = addr <;> by_cases h' : a' = addr' <;> simp [writeAt, h, h', hfg]

/-- Writes at different addresses to a cell of one address: at most one of them writes it. -/
theorem writeAt_comm {α : Type} {a a' : Nat} (hne : a ≠ a') (addr : Nat) (f : Byte → α → α) (v v' : Byte) (x : α) :
    writeAt addr f a' v' (writeAt addr f a v x) = writeAt addr f a v (writeAt addr f a' v' x) := by
  unfold writeAt
  by_cases h : a = addr
  · simp [show a' ≠ addr from fun h' => hne (h.trans h'.symm)]
  · simp [h]

/-- The two bytes of a 16-bit cell can be written in either order (R143). -/
theorem setLowByte_setHighByte (w : Half) (low high : Byte) :
    setLowByte (setHighByte w high) low = setHighByte (setLowByte w low) high := by
  rw [setHighByte_setLowByte, setLowByte, setHighByte, highByte_halfOf]

theorem writeHalfAt_comm {a a' : Nat} (hne : a ≠ a') (base : Nat) (v v' : Byte) (w : Half) :
    writeHalfAt base a' v' (writeHalfAt base a v w) = writeHalfAt base a v (writeHalfAt base a' v' w) := by
  have hlowHigh (b b' x) := writeAt_comm_of_commute (g := fun v w => setLowByte w v) (f := fun v w => setHighByte w v)
    (fun _ _ _ => setLowByte_setHighByte ..) (base + 1) base a a' b b' x
  have hhighLow (b b' x) := writeAt_comm_of_commute (g := fun v w => setHighByte w v) (f := fun v w => setLowByte w v)
    (fun _ _ _ => (setLowByte_setHighByte ..).symm) base (base + 1) a a' b b' x
  simp only [writeHalfAt]
  rw [hlowHigh, writeAt_comm hne (base + 1), writeAt_comm hne base, hhighLow]

theorem Block.mapWrite_comm (b : Block) {a a' : Nat} (hne : a ≠ a') (ha : a < Config.mapSize)
    (ha' : a' < Config.mapSize) (v v' : Byte) : (b.mapWrite a v).mapWrite a' v' = (b.mapWrite a' v').mapWrite a v := by
  simp only [Block.mapWrite_eq_writeCells _ ha, Block.mapWrite_eq_writeCells _ ha', Block.writeCells, Block.mk.injEq]
  exact ⟨trivial, writeAt_comm hne .., writeHalfAt_comm hne .., writeAt_comm hne .., writeAt_comm hne ..,
    writeAt_comm hne .., writeAt_comm hne .., writeAt_comm hne .., writeAt_comm hne .., writeAt_comm hne ..,
    writeHalfAt_comm hne .., writeHalfAt_comm hne .., writeAt_comm hne ..⟩

/-! ### What a byte of the map reads as (41_bus_read.md R111 to R129) -/

theorem buttonStatusByte_eq_flags (hasBeenClicked isPressed : Bool) :
    buttonStatusByte hasBeenClicked isPressed = BitVec.ofNat 8 (flagAt isPressed 0 + flagAt hasBeenClicked 1) := by
  revert hasBeenClicked isPressed
  decide

theorem interruptConfigByte_eq_flags (status clickedEnable pressedEnable : Bool) :
    interruptConfigByte status clickedEnable pressedEnable =
      BitVec.ofNat 8 (flagAt pressedEnable 0 + flagAt clickedEnable 1 + flagAt status 2) := by
  revert status clickedEnable pressedEnable
  decide

theorem queueStatusByte_eq_flags (q : Queue) :
    queueStatusByte q = BitVec.ofNat 8 (flagAt (q.size == Config.capacity) 5 + flagAt (q.size == 0) 6) := by
  have hfull : q.isFull = (q.size == Config.capacity) := by
    rw [Bool.eq_iff_iff, q.isFull_iff_size_eq_capacity, beq_iff_eq]
  have hempty : q.isEmpty = (q.size == 0) := by
    rw [Bool.eq_iff_iff, q.isEmpty_iff_size_eq_zero, beq_iff_eq]
  rw [queueStatusByte, ← hfull, ← hempty]
  cases q.isFull <;> cases q.isEmpty <;> rfl

/-- The table gives a byte of a view the value of its queue's newest or oldest entry, if there is one. -/
theorem ViewField.mapByte_eq {base j : Nat} {queue : Block → Queue} {peek : Queue → Timestamp → Timestamp}
    (hfield : ViewField base queue peek) (hj : j < 4) {b : Block} (hwf : (queue b).Wf) :
    ∃ entry : Option Timestamp, b.mapByte (base + j) = entry.map (fun w => natByte w.toNat j) ∧
      ∀ w, entry = some w → (queue b).isEmpty = false ∧ ∀ t, peek (queue b) t = w := by
  match j, hj with
  | 0, _ | 1, _ | 2, _ | 3, _ =>
    cases hfield with
    | pressedFront | clickedFront => exact ⟨_, rfl, fun _ hw => Queue.front_of_getLast? hwf hw⟩
    | pressedBack | clickedBack => exact ⟨_, rfl, fun _ hw => Queue.back_of_head? hw⟩

theorem exec_read_view_mapByte {base j : Nat} {queue : Block → Queue} {peek : Queue → Timestamp → Timestamp}
    (hfield : ViewField base queue peek) (hj : j < 4) {s : State} (hwf : (queue s.blk).Wf) {byte : Byte}
    (hbyte : s.blk.mapByte (base + j) = some byte) :
    exec (decodeRead (BitVec.ofNat 8 (base + j))) s = .next (s.respond byte) := by
  obtain ⟨entry, hmap, hentry⟩ := hfield.mapByte_eq hj hwf
  obtain ⟨w, hw, rfl⟩ := Option.map_eq_some_iff.1 (hmap.symm.trans hbyte)
  obtain ⟨hne, hpeek⟩ := hentry w hw
  rw [← decodeKey_keyOf_one _ 0, exec_read_view hfield hj, State.respondView_of_not_isEmpty hne, hpeek]

/-- A byte of the map is a byte of a view, a byte of a 16-bit cell, or a field of its own (30_encoding.md R73). -/
theorem mapAddress_cases {a : Nat} (ha : a < Config.mapSize) :
    (∃ base queue peek, ViewField base queue peek ∧ ∃ j < 4, a = base + j) ∨
    (∃ base cell, HalfField base cell ∧ ∃ j < 2, a = base + j) ∨
    a ∈ [0x00, 0x03, 0x04, 0x0D, 0x16, 0x17, 0x1C, 0x1D, 0x1E, 0x1F] := by
  obtain h | h | h | h | h : (0x05 ≤ a ∧ a < 0x0D ∨ 0x0E ≤ a ∧ a < 0x16) ∨ (0x01 ≤ a ∧ a < 0x01 + 2) ∨
      (0x18 ≤ a ∧ a < 0x18 + 2) ∨ (0x1A ≤ a ∧ a < 0x1A + 2) ∨
      a ∈ [0x00, 0x03, 0x04, 0x0D, 0x16, 0x17, 0x1C, 0x1D, 0x1E, 0x1F] := by
    simp only [Config.mapSize, List.mem_cons, List.not_mem_nil] at ha ⊢
    omega
  · exact .inl (exists_viewField h)
  · exact .inr (.inl ⟨_, _, .debounce, a - 0x01, by omega, (Nat.add_sub_of_le h.1).symm⟩)
  · exact .inr (.inl ⟨_, _, .cycleTime, a - 0x18, by omega, (Nat.add_sub_of_le h.1).symm⟩)
  · exact .inr (.inl ⟨_, _, .offTime, a - 0x1A, by omega, (Nat.add_sub_of_le h.1).symm⟩)
  · exact .inr (.inr h)

theorem HalfField.mapByte_eq {base j : Nat} {cell : Block → Half} (hfield : HalfField base cell) (hj : j < 2)
    (b : Block) : b.mapByte (base + j) = some (natByte (cell b).toNat j) := by
  match j, hj with
  | 0, _ | 1, _ => cases hfield <;> rfl

theorem exec_read_field_mapByte {a : Nat}
    (ha : a ∈ [0x00, 0x03, 0x04, 0x0D, 0x16, 0x17, 0x1C, 0x1D, 0x1E, 0x1F]) (s : State) :
    ∃ byte, exec (decodeRead (BitVec.ofNat 8 a)) s = .next (s.respond byte) ∧ s.blk.mapByte a = some byte := by
  fin_cases ha
  · exact ⟨_, rfl, congrArg some (buttonStatusByte_eq_flags ..).symm⟩
  · exact ⟨_, rfl, congrArg some (interruptConfigByte_eq_flags ..).symm⟩
  · exact ⟨_, rfl, congrArg some (queueStatusByte_eq_flags _).symm⟩
  · exact ⟨_, rfl, congrArg some (queueStatusByte_eq_flags _).symm⟩
  all_goals exact ⟨_, rfl, rfl⟩

/-- A READ of an address of the map answers the byte of the table's read column, where that gives one. -/
theorem exec_decodeRead_mapByte {a : Nat} (ha : a < Config.mapSize) {s : State} (hwf : s.blk.Wf) {byte : Byte}
    (hbyte : s.blk.mapByte a = some byte) : exec (decodeRead (BitVec.ofNat 8 a)) s = .next (s.respond byte) := by
  obtain ⟨hP, hC⟩ := hwf
  obtain ⟨base, queue, peek, hfield, j, hj, rfl⟩ | ⟨base, cell, hfield, j, hj, rfl⟩ | hfield := mapAddress_cases ha
  · have hqueue : (queue s.blk).Wf := by
      cases hfield with
      | pressedFront | pressedBack => exact hP
      | clickedFront | clickedBack => exact hC
    exact exec_read_view_mapByte hfield hj hqueue hbyte
  · obtain rfl := Option.some.inj ((hfield.mapByte_eq hj s.blk).symm.trans hbyte)
    rw [← decodeKey_keyOf_one _ 0]
    exact exec_read_half hfield hj s 0
  · obtain ⟨byte', hexec, hbyte'⟩ := exec_read_field_mapByte hfield s
    obtain rfl := Option.some.inj (hbyte'.symm.trans hbyte)
    exact hexec

/-! ### The service of a request in one step (20_memory.md R58) -/

theorem offset_toNat_ofNat {a : Nat} (ha : a < Config.mapSize) : (BitVec.ofNat 8 a).toNat = a :=
  Nat.mod_eq_of_lt (ha.trans (by decide))

/-- A READ byte of the map appends one byte, the table's where it gives one, and at most draws besides. -/
theorem exec_decodeRead_answers {a : Nat} (ha : a < Config.mapSize) (s : State) :
    ∃ (b : Byte) (n : Nat), exec (decodeRead (BitVec.ofNat 8 a)) s =
        .next { s with rspData := s.rspData ++ [b], draws := n } ∧
      (s.blk.Wf → ∀ byte, s.blk.mapByte a = some byte → b = byte) := by
  obtain ⟨row, hrow, hdecode⟩ := decodeRead_mem_byteRows (a := BitVec.ofNat 8 a) (by rwa [offset_toNat_ofNat ha])
  obtain ⟨b, n, hexec⟩ := exec_byteRows_read hrow s
  rw [← hdecode] at hexec
  refine ⟨b, n, hexec, fun hwf byte hbyte => ?_⟩
  have hrespond := hexec.symm.trans (exec_decodeRead_mapByte ha hwf hbyte)
  have hdata : s.rspData ++ [b] = s.rspData ++ [byte] := congrArg State.rspData (Host.Outcome.next.inj hrespond)
  simpa using hdata

/-- The bytes of an accepted READ served in one step (41_bus_read.md R110). -/
theorem serveAll_readAccesses (n : Nat) {a : Nat} (hrange : a + n ≤ Config.mapSize) (s : State) :
    ∃ (bytes : List Byte) (m : Nat), serveAll (readAccesses a n) s =
        .next { s with rspData := s.rspData ++ bytes, draws := m } ∧
      bytes.length = n ∧
      (s.blk.Wf → ∀ k < n, ∀ byte, s.blk.mapByte (a + k) = some byte → bytes[k]? = some byte) := by
  induction n generalizing a s with
  | zero => exact ⟨[], s.draws, by simp [readAccesses], rfl, by simp⟩
  | succ n ih =>
    obtain ⟨b, m, hexec, hb⟩ := exec_decodeRead_answers (a := a) (by omega) s
    obtain ⟨bytes, m', hserve, hlength, hbytes⟩ :=
      ih (a := a + 1) (by omega) { s with rspData := s.rspData ++ [b], draws := m }
    rw [← readAccess_instr] at hexec
    refine ⟨b :: bytes, m', ?_, by simp [hlength], fun hwf k hk byte hbyte => ?_⟩
    · rw [readAccesses, serveAll_cons hexec, hserve]
      simp
    · cases k with
      | zero => simp [hb hwf byte hbyte]
      | succ k =>
        rw [Nat.add_comm k, ← Nat.add_assoc] at hbyte
        exact hbytes hwf k (by omega) byte hbyte

/-- The bytes of an accepted WRITE served in one step (42_bus_write.md R140). -/
theorem serveAll_writeAccesses (wdata : List Byte) {a : Nat} (hrange : a + wdata.length ≤ Config.mapSize) (s : State) :
    serveAll (writeAccesses a wdata) s = .next (s.setBlk (s.blk.mapWrites a wdata)) := by
  induction wdata generalizing a s with
  | nil => rfl
  | cons v vs ih =>
    rw [List.length_cons] at hrange
    have haddr := offset_toNat_ofNat (a := a) (by omega)
    have hexec := exec_decodeWrite_mapWrite (a := BitVec.ofNat 8 a) (by omega) s v
    rw [haddr, ← writeAccess_instr] at hexec
    rw [writeAccesses, serveAll_cons hexec, ih (by omega)]
    rfl

/-- What a state becomes as a request presented alone is taken: nothing else is presented or in service, and the
response port is emptied. -/
def State.taken (s : State) : State := { s with inbox := [], serving := [], rspErr := Config.ok, rspData := [] }

theorem Request.inRange_iff (r : Request) : r.inRange = true ↔ r.offset.toNat + r.len ≤ Config.mapSize :=
  decide_eq_true_iff

/-- An accepted request presented alone is served whole in one step (20_memory.md R58). -/
theorem step_presenting_atomic {s : State} (hatomic : s.xactAtomic = true) {r : Request}
    (hrange : r.offset.toNat + r.len ≤ Config.mapSize) :
    step (s.presenting (.ofRequest r)) = serveAll r.accesses s.taken := by
  rw [step_presenting_request, takeRequest, if_pos (r.inRange_iff.2 hrange), if_pos hatomic]
  rfl

/-- An accepted READ answers its bytes, the table's where that gives them, and at most draws besides (R110). -/
theorem step_read_atomic {s : State} (hatomic : s.xactAtomic = true) {offset : Offset} {len : Nat}
    (hrange : offset.toNat + len ≤ Config.mapSize) :
    ∃ (bytes : List Byte) (m : Nat), step (s.presenting (.ofRequest (.read offset len))) =
        .next { s.taken with rspData := bytes, draws := m } ∧
      bytes.length = len ∧
      (s.blk.Wf → ∀ k < len, ∀ byte, s.blk.mapByte (offset.toNat + k) = some byte → bytes[k]? = some byte) := by
  rw [step_presenting_atomic hatomic (r := .read offset len) hrange]
  exact serveAll_readAccesses len hrange s.taken

/-- Any accepted READ that covers an address answers the table's byte there (20_memory.md R53). -/
theorem read_answers_mapByte {s t : State} {o : Offset} {n a : Nat} {byte : Byte} (hwf : s.blk.Wf)
    (hatomic : s.xactAtomic = true) (hrange : o.toNat + n ≤ Config.mapSize) (hlo : o.toNat ≤ a)
    (hhi : a < o.toNat + n) (hbyte : s.blk.mapByte a = some byte)
    (ht : step (s.presenting (.ofRequest (.read o n))) = .next t) : t.rspData[a - o.toNat]? = some byte := by
  obtain ⟨bytes, m, hstep, -, hbytes⟩ := step_read_atomic hatomic hrange
  cases hstep.symm.trans ht
  exact hbytes hwf (a - o.toNat) (by omega) byte (by rwa [Nat.add_sub_of_le hlo])

theorem step_write_atomic {s : State} (hatomic : s.xactAtomic = true) {offset : Offset} {wdata : List Byte}
    (hrange : offset.toNat + wdata.length ≤ Config.mapSize) :
    step (s.presenting (.ofRequest (.write offset wdata))) =
      .next (s.taken.setBlk (s.blk.mapWrites offset.toNat wdata)) := by
  rw [step_presenting_atomic hatomic (r := .write offset wdata) hrange]
  exact serveAll_writeAccesses wdata hrange s.taken

/-! ### A request out of range (60_exceptions.md R192) -/

/-- The access that stands for a rejected request lies outside the map (log 11). -/
theorem outOfMap_le {offset : Offset} : Config.mapSize ≤ (outOfMap offset).toNat := by
  unfold outOfMap
  split
  · decide
  · exact not_lt.1 ‹_›

/-- R159: a WRITE of an address outside the map is rejected. -/
theorem exec_decodeWrite_outOfMap {a : Offset} (ha : Config.mapSize ≤ a.toNat) (s : State) (v : Byte) :
    exec (decodeWrite a v) s = .next s.rejectRange := by
  rcases decodeWrite_outOfMap ha v with hrow | hrow | hrow <;> rw [hrow] <;> rfl

/-- R130, R159: the row of an access outside the map rejects. -/
theorem exec_rejected (r : Request) (s : State) : exec r.rejected.instr s = .next s.rejectRange := by
  cases r with
  | read offset len =>
    rw [Request.rejected, readAccess_instr]
    exact exec_decodeRead_outOfMap outOfMap_le s
  | write offset wdata =>
    rw [Request.rejected, writeAccess_instr]
    exact exec_decodeWrite_outOfMap outOfMap_le s _

theorem takeRequest_outOfRange {r : Request} (hrange : r.inRange = false) (s : State) :
    takeRequest r s = .next s.rejectRange := by
  rw [takeRequest, if_neg (Bool.eq_false_iff.1 hrange), exec_rejected]
  rfl

/-! ### A WRITE of zeros (42_bus_write.md R160) -/

theorem bitOf_zero (n : Nat) : bitOf 0#8 n = false := by
  simp [bitOf_eq_getLsbD]

/-- Both bytes of a 16-bit cell written, in ascending order (R140, R143). -/
theorem storeByte_both (w : Half) (lo hi : Byte) : storeByte (storeByte w 0 lo) 1 hi = halfOf hi lo := by
  rw [← setLowByte_eq_storeByte, ← setHighByte_eq_storeByte, setHighByte_setLowByte]

/-- Every cell of the map written 0: nothing is popped, and what is not writable stays. -/
theorem Block.mapWrites_zeros (b : Block) :
    b.mapWrites 0 (List.replicate 32 0x00#8) =
      { isPressed := b.isPressed, hasBeenClicked := false, debounce := 0, pressedEnable := false,
        clickedEnable := false, status := false, queueP := b.queueP, queueC := b.queueC, ledBrightness := 0,
        ledPulseGranularity := 0, ledPulseCycleTime := 0, ledPulseOffTime := 0, i2cAddress := 0 } := by
  simp [List.replicate, Block.mapWrites, bitOf_zero, storeByte_both, halfOf]

/-! ### The map right after RESET (70_reset_and_hazards.md R222) -/

theorem natByte_zero_eq_setWidth (w : Half) : natByte w.toNat 0 = w.setWidth 8 := by
  apply BitVec.eq_of_toNat_eq
  simp [natByte]

theorem natByte_one_eq_setWidth (w : Half) : natByte w.toNat 1 = (w >>> 8).setWidth 8 := by
  apply BitVec.eq_of_toNat_eq
  simp [natByte, Nat.shiftRight_eq_div_pow]

theorem mapByte_04_of_size_zero {b : Block} (hsize : b.queueP.size = 0) : b.mapByte 0x04 = some 0x40 := by
  rw [Block.mapByte_04, hsize]
  rfl

theorem mapByte_0D_of_size_zero {b : Block} (hsize : b.queueC.size = 0) : b.mapByte 0x0D = some 0x40 := by
  rw [Block.mapByte_0D, hsize]
  rfl

/-- The first five bytes of the map after RESET: the flags, `debounce`, the enables, the status of an empty queue. -/
theorem ofCfg_mapByte_from_00 (cfg : Cfg) (n m : Nat) {k : Nat} (hk : k < 5) :
    (Block.ofCfg cfg (Queue.fresh n) (Queue.fresh m)).mapByte (0 + k) =
      [0x00, cfg.debounce.setWidth 8, (cfg.debounce >>> 8).setWidth 8,
        BitVec.ofNat 8 ((if cfg.pressedEnable then 1 else 0) + (if cfg.clickedEnable then 2 else 0)), 0x40][k]? := by
  rw [← natByte_zero_eq_setWidth, ← natByte_one_eq_setWidth]
  obtain rfl | hk : k = 4 ∨ k < 4 := by omega
  · exact mapByte_04_of_size_zero (Queue.fresh_size n)
  · interval_cases k <;> rfl

/-- The last ten bytes of the map after RESET: the LED cells, the address and the identity constants. -/
theorem ofCfg_mapByte_from_16 (cfg : Cfg) (p c : Queue) {k : Nat} (hk : k < 10) :
    (Block.ofCfg cfg p c).mapByte (22 + k) =
      [cfg.ledBrightness, cfg.ledPulseGranularity,
        cfg.ledPulseCycleTime.setWidth 8, (cfg.ledPulseCycleTime >>> 8).setWidth 8,
        cfg.ledPulseOffTime.setWidth 8, (cfg.ledPulseOffTime >>> 8).setWidth 8, cfg.i2cAddress,
        Config.deviceId, Config.fwMinor, Config.fwMajor][k]? := by
  rw [← natByte_one_eq_setWidth, ← natByte_one_eq_setWidth, ← natByte_zero_eq_setWidth, ← natByte_zero_eq_setWidth]
  interval_cases k <;> rfl

/-- An answer that shows the table's bytes wherever they have values shows a stretch of bytes that all have one. -/
theorem take_drop_of_mapByte {b : Block} {bytes expected : List Byte} {start len : Nat}
    (hbytes : ∀ k < len, ∀ byte, b.mapByte k = some byte → bytes[k]? = some byte)
    (hrange : start + expected.length ≤ len)
    (hmap : ∀ k < expected.length, b.mapByte (start + k) = expected[k]?) :
    (bytes.drop start).take expected.length = expected := by
  apply List.ext_getElem?
  intro k
  rw [List.getElem?_take]
  split
  case isTrue hk =>
    have hbyte := hmap k hk
    rw [List.getElem?_eq_getElem hk] at hbyte ⊢
    rw [List.getElem?_drop, hbytes (start + k) (by omega) _ hbyte]
  case isFalse hk => rw [List.getElem?_eq_none (not_lt.1 hk)]

/-! ### The statements -/

/-- Settles O11: the bytes are served one after another, each answered from the table where that gives a value. -/
theorem atomicReadAnswersTheMap : Obligations.AtomicReadAnswersTheMap := by
  unfold Obligations.AtomicReadAnswersTheMap
  intro s offset len hwf hatomic hrange
  obtain ⟨bytes, m, hstep, hlength, hbytes⟩ := step_read_atomic hatomic hrange
  exact ⟨_, hstep, rfl, rfl, rfl, hatomic, rfl, hlength, hbytes hwf⟩

/-- Settles O12: the bytes are served one after another, each as the write column says. -/
theorem atomicWriteAppliesEveryByte : Obligations.AtomicWriteAppliesEveryByte := by
  unfold Obligations.AtomicWriteAppliesEveryByte
  intro s offset wdata hatomic hrange
  exact step_write_atomic hatomic hrange

/-- Settles O13: the out-of-range row that stands for the rejection touches the response port alone. -/
theorem outOfRangeRequestLeavesNoTrace : Obligations.OutOfRangeRequestLeavesNoTrace := by
  unfold Obligations.OutOfRangeRequestLeavesNoTrace
  intro s r hout
  have hrange : r.inRange = false := Bool.eq_false_iff.2 fun h => hout.not_ge (r.inRange_iff.1 h)
  rw [step_presenting_request, takeRequest_outOfRange hrange]
  rfl

/-- Settles O19: each of two READs answers the table's byte for the address; a WRITE applies its first byte and then the
others at the next address. -/
theorem layoutDoesNotDependOnTheRequest : Obligations.LayoutDoesNotDependOnTheRequest := by
  unfold Obligations.LayoutDoesNotDependOnTheRequest
  constructor
  · intro s s' t t' o o' n n' a hwf hblk hatomic hatomic' hrange hrange' hlo hhi hlo' hhi' hvalue ht ht'
    obtain ⟨byte, hbyte⟩ := Option.ne_none_iff_exists'.1 hvalue
    have hread := read_answers_mapByte hwf hatomic hrange hlo hhi hbyte ht
    rw [hblk] at hwf hbyte
    rw [hread, read_answers_mapByte hwf hatomic' hrange' hlo' hhi' hbyte ht']
  · intro s o v vs hatomic hrange
    have hnext : (o + 1).toNat = o.toNat + 1 := by
      simp only [Config.mapSize] at hrange
      bv_omega
    refine ⟨_, _, _, step_write_atomic hatomic ?_, step_write_atomic (s := s.taken.setBlk _) hatomic ?_,
      step_write_atomic hatomic hrange, ?_⟩
    · rw [List.length_singleton]
      omega
    · omega
    · change s.blk.mapWrites o.toNat (v :: vs) = (s.blk.mapWrites o.toNat [v]).mapWrites (o + 1).toNat vs
      rw [hnext]
      rfl

/-- Settles O21: each of the two rows writes the cells of its own address. -/
theorem writtenBytesCommute : Obligations.WrittenBytesCommute := by
  unfold Obligations.WrittenBytesCommute
  intro s t t' u u' a a' v v' hne ha ha' ht hu ht' hu'
  have haddr : a.toNat ≠ a'.toNat := fun h => hne (BitVec.eq_of_toNat_eq h)
  rw [decodeKey_keyOf_zero, exec_decodeWrite_mapWrite ha] at ht hu'
  rw [decodeKey_keyOf_zero, exec_decodeWrite_mapWrite ha'] at ht' hu
  cases ht
  cases ht'
  cases hu
  cases hu'
  exact congrArg s.setBlk (Block.mapWrite_comm _ haddr ha ha' v v')

/-- Settles O22: a written 0 clears a flag, an enable and the latch, stores 0 in a cell, and requests no pop. -/
theorem writeOfZerosOverTheWholeMap : Obligations.WriteOfZerosOverTheWholeMap := by
  unfold Obligations.WriteOfZerosOverTheWholeMap
  intro s hatomic
  rw [step_write_atomic hatomic (by decide)]
  exact congrArg (fun b => Host.Outcome.next (s.taken.setBlk b)) s.blk.mapWrites_zeros

/-- Settles O23: RESET leaves empty queues and the vector in the cells, and a READ of the whole map answers the table's
bytes for them. -/
theorem mapRightAfterReset : Obligations.MapRightAfterReset := by
  unfold Obligations.MapRightAfterReset
  intro cfg s t hatomic ht
  obtain ⟨hblk, htatomic⟩ : t.blk = Block.ofCfg cfg (Queue.fresh s.draws) (Queue.fresh (s.draws + Config.capacity)) ∧
      t.xactAtomic = true := by
    cases ht
    exact ⟨rfl, hatomic⟩
  obtain ⟨bytes, m, hstep, hlength, hanswer⟩ := step_read_atomic htatomic (offset := 0x00) (len := 32) (by decide)
  have hbytes : ∀ k < 32, ∀ byte, t.blk.mapByte k = some byte → bytes[k]? = some byte := by
    intro k hk byte hbyte
    rw [hblk] at hanswer
    refine hanswer ⟨Queue.fresh_wf _, Queue.fresh_wf _⟩ k hk byte ?_
    simpa [hblk] using hbyte
  rw [hblk] at hbytes
  refine ⟨_, hstep, rfl, hlength, ?_, hbytes 13 (by decide) 0x40 (mapByte_0D_of_size_zero (Queue.fresh_size _)), ?_⟩
  · exact take_drop_of_mapByte (start := 0) hbytes (by simp) fun k hk => ofCfg_mapByte_from_00 cfg _ _ hk
  · have htail := take_drop_of_mapByte (start := 22) hbytes (by simp) fun k hk => ofCfg_mapByte_from_16 cfg _ _ hk
    rwa [List.take_of_length_le (by simp [hlength])] at htail

end Sys2Proof.Machine
end

section
/-! SUPPORT. One step, from what is presented to the row it runs (20_memory.md R58, R59; 60_exceptions.md R203, R204;
logs 5 to 8). No row but RESET looks at the ports it does not name, so the service of a request goes on alike whatever
is presented; the byte-granular service of a request is then an induction on its bytes, and so is every claim about
the block that each served byte keeps. -/

namespace Sys2Proof.Machine

/-! ### The rows a request is served by -/

theorem ByteAccess.instr_cases (b : ByteAccess) :
    (b.rw = 1#1 ∧ b.instr = decodeRead b.addr) ∨ (b.rw = 0#1 ∧ b.instr = decodeWrite b.addr b.wdata) := by
  obtain ⟨rw, a, v⟩ := b
  obtain rfl | rfl := BitVec.eq_zero_or_eq_one rw
  · exact .inr ⟨rfl, decodeKey_keyOf_zero a v⟩
  · exact .inl ⟨rfl, decodeKey_keyOf_one a v⟩

/-- A row that serves a byte of a request: neither an event nor RESET. -/
structure RequestRow (i : Instr) : Prop where
  ne_press (ts : Timestamp) : i ≠ .evPress ts
  ne_click (ts : Timestamp) : i ≠ .evClick ts
  ne_reset (cfg : Cfg) : i ≠ .reset cfg

theorem requestRow_byteRows {row : Nat × Instr × (Byte → Instr)} (hrow : row ∈ byteRows) (v : Byte) :
    RequestRow row.2.1 ∧ RequestRow (row.2.2 v) := by
  unfold byteRows at hrow
  fin_cases hrow <;> exact ⟨⟨nofun, nofun, nofun⟩, ⟨nofun, nofun, nofun⟩⟩

theorem requestRow_decode (a : Offset) (v : Byte) : RequestRow (decodeRead a) ∧ RequestRow (decodeWrite a v) := by
  rcases lt_or_ge a.toNat Config.mapSize with hin | hout
  · obtain ⟨row, hrow, -, hread, hwrite⟩ := decode_inMap hin
    rw [hread, hwrite]
    exact requestRow_byteRows hrow v
  · rcases decode_outOfMap hout with ⟨-, hread, hwrite⟩ | ⟨-, hread, hwrite⟩ | ⟨-, hread, hwrite⟩ <;>
      rw [hread, hwrite] <;> exact ⟨⟨nofun, nofun, nofun⟩, ⟨nofun, nofun, nofun⟩⟩

theorem ByteAccess.requestRow (b : ByteAccess) : RequestRow b.instr := by
  obtain ⟨hread, hwrite⟩ := requestRow_decode b.addr b.wdata
  rcases b.instr_cases with ⟨-, hinstr⟩ | ⟨-, hinstr⟩ <;> rw [hinstr]
  · exact hread
  · exact hwrite

/-! ### What a row does not look at -/

/-- The state with other things presented and in service and another setting of `XACT_ATOMIC`. -/
def State.withControl (s : State) (inbox : List Presentation) (serving : List ByteAccess) (atomic : Bool) : State :=
  { s with inbox := inbox, serving := serving, xactAtomic := atomic }

/-- A row other than RESET does the same whatever is presented and in service, in either setting. -/
theorem exec_withControl {i : Instr} (hreset : ∀ cfg, i ≠ .reset cfg) {s t : State} (h : exec i s = .next t)
    (inbox : List Presentation) (serving : List ByteAccess) (atomic : Bool) :
    exec i (s.withControl inbox serving atomic) = .next (t.withControl inbox serving atomic) := by
  cases i with
  | reset cfg => exact absurd rfl (hreset cfg)
  | _ =>
    cases h
    rfl

theorem serveAll_withControl {bs : List ByteAccess} {s t : State} (h : serveAll bs s = .next t)
    (inbox : List Presentation) (serving : List ByteAccess) (atomic : Bool) :
    serveAll bs (s.withControl inbox serving atomic) = .next (t.withControl inbox serving atomic) := by
  induction bs generalizing s with
  | nil =>
    cases h
    rfl
  | cons b bs ih =>
    obtain ⟨u, hu, hrest⟩ := serveAll_cons_next h
    rw [serveAll_cons (exec_withControl b.requestRow.ne_reset hu inbox serving atomic), ih hrest]

/-- The service of a request leaves what is presented and in service, and the setting, as they are. -/
theorem serveAll_keeps_control {bs : List ByteAccess} {s t : State} (h : serveAll bs s = .next t) :
    t.withControl s.inbox s.serving s.xactAtomic = t :=
  Host.Outcome.next.inj ((serveAll_withControl h s.inbox s.serving s.xactAtomic).symm.trans h)

theorem serveAll_with_inbox {bs : List ByteAccess} {s t : State} (h : serveAll bs s = .next t)
    (x : List Presentation) : serveAll bs { s with inbox := x } = .next { t with inbox := x } := by
  have hx := serveAll_withControl h x s.serving s.xactAtomic
  rw [← serveAll_keeps_control h]
  exact hx

theorem serveNext_with_inbox {s t : State} (h : serveNext s = .next t) (x : List Presentation) :
    serveNext { s with inbox := x } = .next { t with inbox := x } := by
  rcases serveNext_cases s with ⟨hserving, hserve⟩ | ⟨b, bs, hserving, hserve⟩
  · cases hserve.symm.trans h
    simp [serveNext, hserving]
  · have hexec := exec_with_inbox (hserve.symm.trans h) x
    simp only [serveNext, hserving]
    exact hexec

/-- A request is taken alike whatever else is presented. -/
theorem takeRequest_with_inbox {r : Request} {s t : State} (h : takeRequest r s = .next t) (x : List Presentation) :
    takeRequest r { s with inbox := x } = .next { t with inbox := x } := by
  rcases takeRequest_cases r s with ⟨hrange, htake⟩ | ⟨hrange, hatomic, htake⟩ | ⟨hrange, hatomic, htake⟩
  · rw [takeRequest_outOfRange hrange] at h ⊢
    cases h
    rfl
  · rw [takeRequest, if_pos hrange, if_pos hatomic]
    exact serveAll_with_inbox (htake.symm.trans h) x
  · rw [takeRequest, if_pos hrange, if_neg (Bool.eq_false_iff.1 hatomic)]
    exact serveNext_with_inbox (htake.symm.trans h) x

/-- With requests served whole, nothing is left in service. -/
theorem takeRequest_keeps_serving {r : Request} {s t : State} (hatomic : s.xactAtomic = true)
    (h : takeRequest r s = .next t) : t.serving = s.serving := by
  rcases takeRequest_cases r s with ⟨hrange, -⟩ | ⟨-, -, htake⟩ | ⟨-, hgranular, -⟩
  · rw [takeRequest_outOfRange hrange] at h
    cases h
    rfl
  · exact (congrArg State.serving (serveAll_keeps_control (htake.symm.trans h))).symm
  · simp [hatomic] at hgranular

/-! ### Who is taken (60_exceptions.md R203, R204) -/

theorem step_of_reset {s : State} {p : Presentation} {rest : List Presentation} {cfg : Cfg}
    (hinbox : s.inbox = p :: rest) (hrst : p.rst = some cfg) : step s = exec (.reset cfg) { s with inbox := rest } := by
  simp [step_of_inbox_cons hinbox, takePresented, hrst]

/-- The event goes if the presentation puts it first or nothing is there for the bus to do. -/
theorem step_of_event {s : State} {p : Presentation} {rest : List Presentation} {e : Event}
    (hinbox : s.inbox = p :: rest) (hrst : p.rst = none) (hev : p.ev = some e)
    (hfirst : p.eventFirst = true ∨ p.req = none ∧ s.serving = []) :
    step s = exec (decodeEvent e.kind e.ts)
      { s with inbox := if p.req.isNone then rest else { p with ev := none } :: rest } := by
  have hturn : (p.eventFirst || (p.req.isNone && s.serving.isEmpty)) = true := by
    rcases hfirst with hfirst | ⟨hreq, hserving⟩
    · simp [hfirst]
    · simp [hreq, hserving]
  simp [step_of_inbox_cons hinbox, takePresented, hrst, hev, hturn, eventTurn, requeue, Presentation.isIdle]

/-- The bus goes if no event is presented, or one that goes second to what the bus has to do. -/
theorem step_of_bus {s : State} {p : Presentation} {rest : List Presentation} (hinbox : s.inbox = p :: rest)
    (hrst : p.rst = none)
    (hsecond : p.ev = none ∨ p.eventFirst = false ∧ (p.req ≠ none ∨ s.serving ≠ [])) :
    step s = busTurn p rest s := by
  rw [step_of_inbox_cons hinbox, takePresented, hrst]
  cases hev : p.ev with
  | none => rfl
  | some e =>
    rcases hsecond with hnone | ⟨hfirst, hbusy⟩
    · simp [hev] at hnone
    · have hturn : (p.eventFirst || (p.req.isNone && s.serving.isEmpty)) = false := by
        rcases hbusy with hreq | hserving
        · simp [hfirst, hreq]
        · simp [hfirst, hserving]
      simp [hturn]

/-- While a request is in service its next byte is served, and what is presented stays (20_memory.md R59). -/
theorem busTurn_of_serving {s : State} {b : ByteAccess} {bs : List ByteAccess} (hserving : s.serving = b :: bs)
    (p : Presentation) (rest : List Presentation) :
    busTurn p rest s = exec b.instr { s with serving := bs, inbox := requeue p rest } := by
  simp [busTurn, serveNext, hserving]

theorem busTurn_of_request {s : State} {p : Presentation} {r : Request} (hidle : s.serving = []) (hreq : p.req = some r)
    (rest : List Presentation) :
    busTurn p rest s = takeRequest r { s with inbox := requeue { p with req := none } rest } := by
  simp [busTurn, hidle, hreq]

/-! ### One operation presented, from its bytes to its row (30_encoding.md section 5; logs 5, 10) -/

/-- A one-byte WRITE is its row on an emptied response port, accepted or not, in either setting of `XACT_ATOMIC`. -/
theorem takeRequest_write_one {s : State} (hidle : s.serving = []) (a : Offset) (v : Byte) :
    takeRequest (.write a [v]) s = exec (decodeWrite a v) s.beginResponse := by
  rcases takeRequest_cases (.write a [v]) s with ⟨hrange, -⟩ | ⟨-, -, htake⟩ | ⟨-, -, htake⟩
  · have hout : Config.mapSize ≤ a.toNat := not_lt.1 fun ha => Bool.eq_false_iff.1 hrange (decide_eq_true ha)
    rw [takeRequest_outOfRange hrange, exec_decodeWrite_outOfMap hout]
    rfl
  · rw [htake, Request.accesses_write_one, serveAll_singleton, writeAccess_instr]
  · have hserve : { s.beginResponse with serving := [] } = s.beginResponse := by
      rw [← hidle]
      rfl
    rw [htake, Request.accesses_write_one]
    change exec (ByteAccess.instr { rw := 0#1, addr := a, wdata := v }) { s.beginResponse with serving := [] } = _
    rw [writeAccess_instr, hserve]

/-- The bytes of a READ or of a WRITE present the one-byte request whose row they decode to. -/
theorem decode_req_presents {a d : Byte} {rest : List Byte} {i : Instr} (h : decode .req (a :: d :: rest) = .ok i) :
    ∃ r, presentationOf .req (a :: d :: rest) = .ofRequest r ∧
      ∀ s : State, s.serving = [] → takeRequest r s = exec i s.beginResponse := by
  cases hd : d.getLsbD 0 with
  | true =>
    simp only [decode, hd, if_true] at h
    match rest with
    | [] =>
      cases h
      refine ⟨.read a 1, by simp only [presentationOf, hd, if_true], fun s hidle => ?_⟩
      rw [takeRequest_read_one hidle, decodeKey_keyOf_one]
    | _ :: _ => simp at h
  | false =>
    simp only [decode, hd, Bool.false_eq_true, if_false] at h
    match rest with
    | [] => simp at h
    | [v] =>
      cases h
      refine ⟨.write a [v], by simp only [presentationOf, hd, Bool.false_eq_true, if_false], fun s hidle => ?_⟩
      rw [takeRequest_write_one hidle, decodeKey_keyOf_zero]
    | _ :: _ :: _ => simp at h

/-- What bytes that decode present, format by format. -/
theorem decode_presents {f : Format} {bytes : List Byte} {i : Instr} (h : decode f bytes = .ok i) :
    (f = .req ∧ ∃ r, presentationOf f bytes = .ofRequest r ∧
      ∀ s : State, s.serving = [] → takeRequest r s = exec i s.beginResponse) ∨
    (f = .evt ∧ ∃ e, presentationOf f bytes = .ofEvent e ∧ i = decodeEvent e.kind e.ts) ∨
    (f = .rst ∧ ∃ cfg, presentationOf f bytes = .ofReset cfg ∧ i = .reset cfg) := by
  unfold decode at h
  split at h
  case h_1 => exact .inl ⟨rfl, decode_req_presents h⟩
  case h_3 =>
    cases h
    exact .inr (.inl ⟨rfl, _, rfl, rfl⟩)
  case h_6 =>
    cases h
    exact .inr (.inr ⟨rfl, _, rfl, rfl⟩)
  all_goals cases h

/-! ### A request and an event presented together (60_exceptions.md R203; log 6) -/

/-- A request that goes first is taken as if presented alone, and the event stays presented. -/
theorem step_request_first (s : State) (r : Request) (e : Event) :
    ∃ t, step (s.presenting (.ofRequest r)) = .next t ∧
      step (s.presenting { rst := none, req := some r, ev := some e, eventFirst := false }) =
        .next { t with inbox := [.ofEvent e] } := by
  obtain ⟨t, ht⟩ := step_total (s.presenting (.ofRequest r))
  refine ⟨t, ht, ?_⟩
  rw [step_of_bus rfl rfl (.inr ⟨rfl, .inl (Option.some_ne_none r)⟩), busTurn_of_request rfl rfl]
  exact takeRequest_with_inbox ht [.ofEvent e]

/-- An event that goes first is taken with its row's effect, and a request stays presented, whatever is in service. -/
theorem step_event_first {s : State} {p : Presentation} {rest : List Presentation} {e : Event}
    (hinbox : s.inbox = p :: rest) (hrst : p.rst = none) (hev : p.ev = some e) (hfirst : p.eventFirst = true) :
    ∃ t, exec (decodeEvent e.kind e.ts) s = .next t ∧ t.serving = s.serving ∧
      step s = .next { t with inbox := if p.req.isNone then rest else { p with ev := none } :: rest } := by
  obtain ⟨t, ht⟩ := exec_total (decodeEvent e.kind e.ts) s
  refine ⟨t, ht, decodeEvent_keeps_serving ht, ?_⟩
  rw [step_of_event hinbox hrst hev (.inl hfirst)]
  exact exec_with_inbox ht _

/-- A request that alone is left of a presentation is taken as if presented alone. -/
theorem step_request_alone {s : State} {p : Presentation} {r : Request} (hinbox : s.inbox = [p]) (hrst : p.rst = none)
    (hev : p.ev = none) (hreq : p.req = some r) (hidle : s.serving = []) :
    step s = step (s.presenting (.ofRequest r)) := by
  have hrest : requeue { p with req := none } [] = [] := by simp [requeue, Presentation.isIdle, hrst, hev]
  rw [step_of_bus hinbox hrst (.inl hev), busTurn_of_request hidle hreq, step_presenting_request, hrest]
  exact congrArg (fun l => takeRequest r { s with inbox := [], serving := l }) hidle

/-! ### A request served byte by byte (20_memory.md R59; log 8) -/

/-- With nothing presented a step serves the next byte of the request in service. -/
theorem step_of_serving {s : State} {b : ByteAccess} {bs : List ByteAccess} (hinbox : s.inbox = [])
    (hserving : s.serving = b :: bs) : step s = exec b.instr { s with serving := bs } := by
  rw [step_of_inbox_nil hinbox, serveNext, hserving]

/-- With nothing presented a step writes the next byte of the WRITE in service, as the write column says. -/
theorem step_of_serving_write {s : State} {a : Offset} {v : Byte} {bs : List ByteAccess}
    (ha : a.toNat < Config.mapSize) (hinbox : s.inbox = [])
    (hserving : s.serving = { rw := 0#1, addr := a, wdata := v } :: bs) :
    step s = .next ({ s with serving := bs }.setBlk (s.blk.mapWrite a.toNat v)) := by
  rw [step_of_serving hinbox hserving, writeAccess_instr, exec_decodeWrite_mapWrite ha]

/-- An accepted request presented alone is first put in service, and its first byte served in the same step. -/
theorem step_presenting_granular {s : State} (hgranular : s.xactAtomic = false) {r : Request}
    (hrange : r.offset.toNat + r.len ≤ Config.mapSize) :
    step (s.presenting (.ofRequest r)) = step (s.taken.withControl [] r.accesses false) := by
  rw [step_presenting_request, takeRequest, if_pos (r.inRange_iff.2 hrange), if_neg (Bool.eq_false_iff.1 hgranular),
    step_of_inbox_nil rfl]
  exact congrArg (fun atomic => serveNext (s.taken.withControl [] r.accesses atomic)) hgranular

/-- Steps that serve the bytes of a request one by one end as their service in one step does. -/
theorem run_of_serving {bs : List ByteAccess} {s t : State} (h : serveAll bs s = .next t) (atomic : Bool) :
    Host.Core.run Sys2Proof.core bs.length (s.withControl [] bs atomic) = .next (t.withControl [] [] atomic) := by
  induction bs generalizing s with
  | nil =>
    cases h
    rfl
  | cons b bs ih =>
    obtain ⟨u, hu, hrest⟩ := serveAll_cons_next h
    have hstep : step (s.withControl [] (b :: bs) atomic) = .next (u.withControl [] bs atomic) := by
      rw [step_of_serving rfl rfl]
      exact exec_withControl b.requestRow.ne_reset hu [] bs atomic
    rw [List.length_cons, core_run_succ hstep, ih hrest]

/-- A run from two states whose first steps agree. -/
theorem core_run_congr {s s' : State} (h : step s = step s') {k : Nat} (hk : 0 < k) :
    Host.Core.run Sys2Proof.core k s = Host.Core.run Sys2Proof.core k s' := by
  obtain ⟨k, rfl⟩ := Nat.exists_eq_add_one.2 hk
  obtain ⟨t, ht⟩ := step_total s
  rw [core_run_succ ht, core_run_succ (h ▸ ht)]

theorem readAccesses_length (a n : Nat) : (readAccesses a n).length = n := by
  induction n generalizing a with
  | zero => rfl
  | succ n ih => rw [readAccesses, List.length_cons, ih]

theorem writeAccesses_length (a : Nat) (wdata : List Byte) : (writeAccesses a wdata).length = wdata.length := by
  induction wdata generalizing a with
  | nil => rfl
  | cons v vs ih => rw [writeAccesses, List.length_cons, ih, List.length_cons]

theorem Request.accesses_length (r : Request) : r.accesses.length = r.len := by
  cases r with
  | read offset len => exact readAccesses_length _ _
  | write offset wdata => exact writeAccesses_length _ _

/-! ### What every served byte keeps of the block, every served request keeps -/

section
variable {P : Block → Prop} {Q : ByteAccess → Prop}
  (hrow : ∀ b s t, Q b → P s.blk → exec b.instr s = .next t → P t.blk)
include hrow

theorem serveAll_keeps {bs : List ByteAccess} (hbs : ∀ b ∈ bs, Q b) {s t : State} (hs : P s.blk)
    (h : serveAll bs s = .next t) : P t.blk := by
  induction bs generalizing s with
  | nil =>
    cases h
    exact hs
  | cons b bs ih =>
    obtain ⟨u, hu, hrest⟩ := serveAll_cons_next h
    obtain ⟨hb, hbs⟩ := List.forall_mem_cons.1 hbs
    exact ih hbs (hrow b s u hb hs hu) hrest

theorem serveNext_keeps {s t : State} (hserving : ∀ b ∈ s.serving, Q b) (hs : P s.blk)
    (h : serveNext s = .next t) : P t.blk := by
  rcases serveNext_cases s with ⟨-, hserve⟩ | ⟨b, bs, hb, hserve⟩
  · cases hserve.symm.trans h
    exact hs
  · exact hrow b { s with serving := bs } t (hserving b (hb ▸ List.mem_cons_self)) hs (hserve.symm.trans h)

theorem takeRequest_keeps {r : Request} (hr : ∀ b ∈ r.accesses, Q b) {s t : State} (hs : P s.blk)
    (h : takeRequest r s = .next t) : P t.blk := by
  rcases takeRequest_cases r s with ⟨hrange, -⟩ | ⟨-, -, htake⟩ | ⟨-, -, htake⟩
  · rw [takeRequest_outOfRange hrange] at h
    cases h
    exact hs
  · exact serveAll_keeps hrow hr (s := s.beginResponse) hs (htake.symm.trans h)
  · exact serveNext_keeps hrow (s := { s.beginResponse with serving := r.accesses }) hr hs (htake.symm.trans h)

/-- The bus's turn serves the request in service or takes the one presented. -/
theorem busTurn_keeps {p : Presentation} {rest : List Presentation} {s t : State}
    (hserving : ∀ b ∈ s.serving, Q b)
    (hreq : ∀ r, p.req = some r → ∀ b ∈ r.accesses, Q b) (hs : P s.blk) (h : busTurn p rest s = .next t) :
    P t.blk := by
  rcases busTurn_cases p rest s with ⟨-, hturn⟩ | ⟨-, -, hturn⟩ | ⟨r, -, hr, hturn⟩
  · exact serveNext_keeps hrow (s := { s with inbox := requeue p rest }) hserving hs (hturn.symm.trans h)
  · cases hturn.symm.trans h
    exact hs
  · exact takeRequest_keeps hrow (hreq r hr) (s := { s with inbox := requeue { p with req := none } rest }) hs
      (hturn.symm.trans h)

end

/-- A READ row leaves the block, inside the map and outside (41_bus_read.md R111, R130). -/
theorem exec_decodeRead_blk {a : Offset} {s t : State} (h : exec (decodeRead a) s = .next t) : t.blk = s.blk := by
  rcases lt_or_ge a.toNat Config.mapSize with hin | hout
  · obtain ⟨row, hrow, hdecode⟩ := decodeRead_mem_byteRows hin
    obtain ⟨b, n, hexec⟩ := exec_byteRows_read hrow s
    rw [hdecode, hexec] at h
    cases h
    rfl
  · rw [exec_decodeRead_outOfMap hout] at h
    cases h
    rfl

theorem readAccesses_rw (a n : Nat) : ∀ b ∈ readAccesses a n, b.rw = 1#1 := by
  induction n generalizing a with
  | zero => exact fun b hb => absurd hb List.not_mem_nil
  | succ n ih => exact List.forall_mem_cons.2 ⟨rfl, ih (a + 1)⟩

/-- R173: a row that is no event leaves the latch 0. -/
theorem exec_requestRow_status {i : Instr} (hi : RequestRow i) {s t : State} (hclear : s.blk.status = false)
    (h : exec i s = .next t) : t.blk.status = false := by
  rcases exec_status_cases h with ⟨ts, rfl, -⟩ | ⟨ts, rfl, -⟩ | ⟨v, -, hstatus⟩ | ⟨cfg, -, hstatus⟩ |
    ⟨-, -, -, -, hstatus⟩
  · exact absurd rfl (hi.ne_press ts)
  · exact absurd rfl (hi.ne_click ts)
  · rw [hstatus, hclear, Bool.false_and]
  · exact hstatus
  · rw [hstatus, hclear]

/-! ### The statements -/

/-- Settles O1: bytes that decode present the request, the event or the reset whose row they decode to. -/
theorem stepRunsDecodedOperation : Obligations.StepRunsDecodedOperation := by
  unfold Obligations.StepRunsDecodedOperation
  intro s f bytes rest i hidle hinbox hdecode
  rcases decode_presents hdecode with ⟨rfl, r, hpresent, htake⟩ | ⟨rfl, e, hpresent, rfl⟩ | ⟨rfl, cfg, hpresent, rfl⟩
  · rw [hpresent] at hinbox
    rw [step_of_bus hinbox rfl (.inl rfl), busTurn_of_request hidle rfl]
    exact htake { s with inbox := rest } hidle
  · rw [hpresent] at hinbox
    exact step_of_event hinbox rfl rfl (.inr ⟨rfl, hidle⟩)
  · rw [hpresent] at hinbox
    exact step_of_reset hinbox rfl

/-- Settles O2: the bus goes, and it serves the next byte of the request in service. -/
theorem stepServesDecodedByte : Obligations.StepServesDecodedByte := by
  unfold Obligations.StepServesDecodedByte
  intro s b bs hserving
  refine ⟨fun hinbox => step_of_serving hinbox hserving, fun p rest hinbox hrst hsecond => ?_⟩
  have hbusy : s.serving ≠ [] := hserving ▸ List.cons_ne_nil b bs
  rw [step_of_bus hinbox hrst (hsecond.imp_right fun hfirst => ⟨hfirst, .inr hbusy⟩), busTurn_of_serving hserving,
    requeue, Presentation.isIdle, hrst]
  rfl

/-- Settles O3: with nothing in service there is no byte to serve. -/
theorem stepIdlesWhenNothingIsPresented : Obligations.StepIdlesWhenNothingIsPresented := by
  unfold Obligations.StepIdlesWhenNothingIsPresented
  intro s hinbox hserving
  rw [step_of_inbox_nil hinbox, serveNext, hserving]

/-- Settles O16: reset is looked at before the other ports. -/
theorem resetHasPriority : Obligations.ResetHasPriority := by
  unfold Obligations.ResetHasPriority
  intro s p rest cfg hinbox hrst
  exact step_of_reset hinbox hrst

/-- Settles O14, by induction on the bytes of the request: a row does the same whatever else is in service and in either
setting. -/
theorem byteGranularServiceEqualsAtomic : Obligations.ByteGranularServiceEqualsAtomic := by
  unfold Obligations.ByteGranularServiceEqualsAtomic
  intro s r hgranular hrange
  obtain ⟨u, hu⟩ := serveAll_total r.accesses s.taken
  have hatomic : step ({ s with xactAtomic := true }.presenting (.ofRequest r)) = .next (u.withControl [] [] true) := by
    rw [step_presenting_atomic rfl hrange]
    exact serveAll_withControl hu [] [] true
  refine ⟨_, hatomic, ?_⟩
  rw [core_run_congr (step_presenting_granular hgranular hrange) (by omega), ← r.accesses_length]
  cases haccesses : r.accesses with
  | nil =>
    rw [haccesses] at hu
    cases hu
    rfl
  | cons b bs =>
    have hrun := run_of_serving hu false
    rw [haccesses] at hrun
    rw [max_eq_right (by simp)]
    exact hrun

/-- Settles O17: a READ row leaves the block, and every byte served is a READ byte. -/
theorem readRequestsLeaveTheBlockUnchanged : Obligations.ReadRequestsLeaveTheBlockUnchanged := by
  unfold Obligations.ReadRequestsLeaveTheBlockUnchanged
  intro s t hserving hpresented h
  have hrow : ∀ (b : ByteAccess) (u v : State), b.rw = 1#1 → u.blk = s.blk → exec b.instr u = .next v →
      v.blk = s.blk := by
    intro b u v hb hu hv
    rcases b.instr_cases with ⟨-, hread⟩ | ⟨hwrite, -⟩
    · rw [hread] at hv
      rw [exec_decodeRead_blk hv, hu]
    · simp [hb] at hwrite
  cases hinbox : s.inbox with
  | nil =>
    rw [step_of_inbox_nil hinbox] at h
    exact serveNext_keeps (P := (· = s.blk)) hrow hserving rfl h
  | cons p rest =>
    obtain ⟨hrst, hev, hread⟩ := hpresented p (by rw [hinbox]; rfl)
    rw [step_of_bus hinbox hrst (.inl hev)] at h
    refine busTurn_keeps (P := (· = s.blk)) hrow hserving (fun r hr => ?_) rfl h
    obtain ⟨offset, len, rfl⟩ := hread r hr
    exact readAccesses_rw _ _

/-- Settles O34: a step that takes no event runs rows of requests or RESET, which leave the latch 0; an event leaves its
enable in it. -/
theorem latchRisesOnlyInAnEventStep : Obligations.LatchRisesOnlyInAnEventStep := by
  unfold Obligations.LatchRisesOnlyInAnEventStep
  intro s t hclear h hset
  have hrow (b : ByteAccess) (u v : State) (_ : True) (hu : u.blk.status = false) (hv : exec b.instr u = .next v) :
      v.blk.status = false := exec_requestRow_status b.requestRow hu hv
  cases hinbox : s.inbox with
  | nil =>
    rw [step_of_inbox_nil hinbox] at h
    have hstays := serveNext_keeps (P := (·.status = false)) hrow (fun _ _ => trivial) hclear h
    simp [hset] at hstays
  | cons p rest =>
    have hstep := step_of_inbox_cons hinbox
    rcases takePresented_cases p rest s with ⟨cfg, -, hreset⟩ | ⟨e, hrst, hev, hevent⟩ | ⟨-, hbus⟩
    · rw [hstep, hreset] at h
      cases h
      simp at hset
    · refine ⟨p, rest, e, rfl, hrst, hev, ?_⟩
      rw [hstep, hevent, eventTurn] at h ⊢
      obtain hkind | hkind := BitVec.eq_zero_or_eq_one e.kind <;> rw [hkind] at h ⊢
      · refine .inl ⟨rfl, ?_, rfl⟩
        cases h
        simpa [hclear] using hset
      · refine .inr ⟨rfl, ?_, rfl⟩
        cases h
        simpa [hclear] using hset
    · rw [hstep, hbus] at h
      have hstays := busTurn_keeps (P := (·.status = false)) hrow (fun _ _ => trivial) (fun _ _ _ _ => trivial) hclear h
      simp [hset] at hstays

/-- Settles O15: the service of a request does not look at what is presented, and an event not at what is in service. -/
theorem bothOrdersOfRequestAndEventAreRuns : Obligations.BothOrdersOfRequestAndEventAreRuns := by
  unfold Obligations.BothOrdersOfRequestAndEventAreRuns
  refine ⟨fun s r e hatomic => ⟨?_, ?_⟩, fun s r e => ?_, fun s p rest e hinbox hrst hev hfirst => ?_⟩
  · obtain ⟨t, ht, hboth⟩ := step_request_first s r e
    obtain ⟨u, hu⟩ := step_total (t.presenting (.ofEvent e))
    have hserving : t.serving = [] := takeRequest_keeps_serving (s := { s with inbox := [], serving := [] }) hatomic ht
    refine ⟨t, u, ht, hu, ?_⟩
    rw [core_run_succ hboth, core_run_succ (t := u) ?_, core_run_zero]
    rw [← hu, State.presenting, ← hserving]
  · obtain ⟨t, ht, hserving, hboth⟩ := step_event_first
      (s := s.presenting { rst := none, req := some r, ev := some e, eventFirst := true }) rfl rfl rfl rfl
    have hevent : step (s.presenting (.ofEvent e)) = .next { t with inbox := [] } := by
      rw [step_of_event rfl rfl rfl (.inr ⟨rfl, rfl⟩)]
      exact exec_with_inbox ht []
    obtain ⟨u, hu⟩ := step_total (State.presenting { t with inbox := [] } (.ofRequest r))
    have halone : step { t with inbox := [{ rst := none, req := some r, ev := none, eventFirst := true }] } =
        step (State.presenting { t with inbox := [] } (.ofRequest r)) :=
      step_request_alone rfl rfl rfl rfl hserving
    refine ⟨_, u, hevent, hu, ?_⟩
    rw [core_run_succ hboth, core_run_succ (t := u) ?_, core_run_zero]
    exact halone.trans hu
  · exact step_request_first s r e
  · exact step_event_first hinbox hrst hev hfirst

/-- Settles O60: atomic, the two bytes are written in one step; otherwise the second is left in service. -/
theorem debounceTimeIsMixedOnlyBetweenBytes : Obligations.DebounceTimeIsMixedOnlyBetweenBytes := by
  unfold Obligations.DebounceTimeIsMixedOnlyBetweenBytes
  intro s lo hi
  have hrange : (0x01#8).toNat + [lo, hi].length ≤ Config.mapSize := Nat.le_of_ble_eq_true rfl
  have hcell : storeByte (storeByte s.blk.debounce 0 lo) 1 hi = hi ++ lo := storeByte_both _ _ _
  refine ⟨fun hatomic => ⟨_, step_write_atomic hatomic hrange, hcell⟩, fun hgranular => ?_⟩
  have hfirst := step_of_serving_write (s := s.taken.withControl [] (Request.write 0x01 [lo, hi]).accesses false)
    (a := 0x01) (by decide) rfl rfl
  rw [← step_presenting_granular hgranular (r := .write 0x01 [lo, hi]) hrange] at hfirst
  have hlow : storeByte s.blk.debounce 0 lo = s.blk.debounce.extractLsb' 8 8 ++ lo :=
    (setLowByte_eq_storeByte s.blk.debounce lo).symm
  exact ⟨_, _, hfirst, hlow, step_of_serving_write (a := 0x02) (by decide) rfl rfl, hcell⟩

end Sys2Proof.Machine
end

section
/-! SUPPORT. The invariant `State.Inv` (10_state.md R33, R42; 20_memory.md R56, R58, R59; 60_exceptions.md R192). Every
row keeps R33; a byte of the map that is served appends at most one byte to the response and touches no other port; the
range check bounds what a request can put in service. -/

namespace Sys2Proof.Machine

/-- R33: every row keeps the queue invariants. -/
theorem exec_wf {i : Instr} {s t : State} (hwf : s.blk.Wf) (h : exec i s = .next t) : t.blk.Wf := by
  obtain ⟨hP, hC⟩ := hwf
  cases i with
  | evPress ts =>
    cases h
    exact ⟨Queue.push_wf _ ts, hC⟩
  | evClick ts =>
    cases h
    exact ⟨hP, Queue.push_wf _ ts⟩
  | wrPressedQueueStatus v =>
    cases h
    exact ⟨Queue.request_wf hP v, hC⟩
  | wrClickedQueueStatus v =>
    cases h
    exact ⟨hP, Queue.request_wf hC v⟩
  | reset cfg =>
    cases h
    exact ⟨Queue.fresh_wf _, Queue.fresh_wf _⟩
  | _ =>
    cases h
    exact ⟨hP, hC⟩

/-- An event touches no port and draws nothing (43_events_interrupt.md R171, R172). -/
theorem decodeEvent_keeps_ports {k : BitVec 1} {ts : Timestamp} {s t : State}
    (h : exec (decodeEvent k ts) s = .next t) : t = s.setBlk t.blk := by
  unfold decodeEvent at h
  split at h <;> cases h <;> rfl

/-- A byte of the map that is served answers at most one byte and touches nothing else but the block and the count of
draws. -/
theorem exec_access_keeps {b : ByteAccess} (hb : b.addr.toNat < Config.mapSize) {s t : State}
    (h : exec b.instr s = .next t) :
    t.xactAtomic = s.xactAtomic ∧ t.serving = s.serving ∧ t.rspErr = s.rspErr ∧
      t.rspData.length ≤ s.rspData.length + 1 := by
  rcases b.instr_cases with ⟨-, hinstr⟩ | ⟨-, hinstr⟩ <;> rw [hinstr] at h
  · obtain ⟨row, hrow, hdecode⟩ := decodeRead_mem_byteRows hb
    obtain ⟨byte, n, hexec⟩ := exec_byteRows_read hrow s
    rw [hdecode, hexec] at h
    cases h
    exact ⟨rfl, rfl, rfl, by simp⟩
  · rw [exec_decodeWrite_mapWrite hb] at h
    cases h
    exact ⟨rfl, rfl, rfl, Nat.le_succ _⟩

theorem readAccesses_inMap (n : Nat) {a : Nat} (hrange : a + n ≤ Config.mapSize) :
    ∀ b ∈ readAccesses a n, b.addr.toNat < Config.mapSize := by
  induction n generalizing a with
  | zero => exact fun b hb => absurd hb List.not_mem_nil
  | succ n ih =>
    have ha : a < Config.mapSize := by omega
    exact List.forall_mem_cons.2 ⟨by rwa [offset_toNat_ofNat ha], ih (by omega)⟩

theorem writeAccesses_inMap (wdata : List Byte) {a : Nat} (hrange : a + wdata.length ≤ Config.mapSize) :
    ∀ b ∈ writeAccesses a wdata, b.addr.toNat < Config.mapSize := by
  induction wdata generalizing a with
  | nil => exact fun b hb => absurd hb List.not_mem_nil
  | cons v vs ih =>
    rw [List.length_cons] at hrange
    have ha : a < Config.mapSize := by omega
    exact List.forall_mem_cons.2 ⟨by rwa [offset_toNat_ofNat ha], ih (by omega)⟩

/-- The bytes of an accepted request lie in the map (20_memory.md R56). -/
theorem Request.accesses_inMap {r : Request} (hrange : r.inRange = true) :
    ∀ b ∈ r.accesses, b.addr.toNat < Config.mapSize := by
  rw [r.inRange_iff] at hrange
  cases r with
  | read offset len => exact readAccesses_inMap len hrange
  | write offset wdata => exact writeAccesses_inMap wdata hrange

theorem serveAll_keeps_ports {bs : List ByteAccess} (hbs : ∀ b ∈ bs, b.addr.toNat < Config.mapSize) {s t : State}
    (h : serveAll bs s = .next t) :
    t.xactAtomic = s.xactAtomic ∧ t.serving = s.serving ∧ t.rspErr = s.rspErr ∧
      t.rspData.length ≤ s.rspData.length + bs.length := by
  induction bs generalizing s with
  | nil =>
    cases h
    exact ⟨rfl, rfl, rfl, le_rfl⟩
  | cons b bs ih =>
    obtain ⟨hb, hbs⟩ := List.forall_mem_cons.1 hbs
    obtain ⟨u, hu, hrest⟩ := serveAll_cons_next h
    obtain ⟨hatomic, hserving, herr, hlength⟩ := exec_access_keeps hb hu
    obtain ⟨hatomic', hserving', herr', hlength'⟩ := ih hbs hrest
    refine ⟨hatomic'.trans hatomic, hserving'.trans hserving, herr'.trans herr, ?_⟩
    rw [List.length_cons]
    omega

theorem ok_ne_errRange : Config.ok ≠ Config.errRange := by
  decide

/-! ### Each turn keeps the invariant -/

/-- A byte of the request in service: one byte less to serve, at most one more answered. -/
theorem serveNext_keeps_inv {s t : State} (hinv : s.Inv) (h : serveNext s = .next t) : t.Inv := by
  rcases serveNext_cases s with ⟨-, hserve⟩ | ⟨b, bs, hservice, hserve⟩
  · cases hserve.symm.trans h
    exact hinv
  · obtain ⟨hwf, hidle, hmap, hreject, hbound⟩ := hinv
    rw [hserve] at h
    rw [hservice] at hidle hmap hreject hbound
    obtain ⟨hb, hbs⟩ := List.forall_mem_cons.1 hmap
    obtain ⟨hatomic, hserving, herr, hlength⟩ := exec_access_keeps hb h
    refine ⟨exec_wf (s := { s with serving := bs }) hwf h, fun ht => ?_, ?_, fun ht => ?_, ?_⟩
    · exact absurd (hidle (hatomic ▸ ht)) (List.cons_ne_nil b bs)
    · rwa [hserving]
    · obtain ⟨-, hnone⟩ := hreject (herr ▸ ht)
      exact absurd hnone (List.cons_ne_nil b bs)
    · rw [hserving]
      simp only [List.length_cons] at hbound hlength ⊢
      omega

/-- A request that is taken: rejected without data, served whole, or put in service with room for its answer. -/
theorem takeRequest_keeps_inv {r : Request} {s t : State} (hidle : s.serving = []) (hwf : s.blk.Wf)
    (h : takeRequest r s = .next t) : t.Inv := by
  rcases takeRequest_cases r s with ⟨hrange, -⟩ | ⟨hrange, hatomic, htake⟩ | ⟨hrange, hgranular, htake⟩
  · rw [takeRequest_outOfRange hrange] at h
    cases h
    refine ⟨hwf, fun _ => hidle, ?_, fun _ => ⟨rfl, hidle⟩, ?_⟩
    · simp [hidle]
    · simp [hidle]
  · have hwf' : t.blk.Wf := serveAll_keeps (Q := fun _ => True) (fun _ _ _ _ hu hv => exec_wf hu hv)
      (fun _ _ => trivial) (s := s.beginResponse) hwf (htake.symm.trans h)
    obtain ⟨-, hserving, hok, hlength⟩ :=
      serveAll_keeps_ports (Request.accesses_inMap hrange) (htake.symm.trans h)
    have hnone : t.serving = [] := hserving.trans hidle
    have hbound := r.inRange_iff.1 hrange
    rw [r.accesses_length] at hlength
    refine ⟨hwf', fun _ => hnone, by simp [hnone], fun ht => absurd (hok.symm.trans ht) ok_ne_errRange, ?_⟩
    rw [hnone]
    simp only [State.beginResponse_rspData, List.length_nil] at hlength ⊢
    omega
  · have hbound := r.inRange_iff.1 hrange
    rw [htake] at h
    refine serveNext_keeps_inv (s := { s.beginResponse with serving := r.accesses })
      ⟨hwf, fun hatomic => ?_, Request.accesses_inMap hrange, fun hno => absurd hno ok_ne_errRange, ?_⟩ h
    · exact absurd hatomic (Bool.eq_false_iff.1 hgranular)
    · change 0 + r.accesses.length ≤ Config.mapSize
      rw [r.accesses_length]
      omega

theorem busTurn_keeps_inv {p : Presentation} {rest : List Presentation} {s t : State} (hinv : s.Inv)
    (h : busTurn p rest s = .next t) : t.Inv := by
  rcases busTurn_cases p rest s with ⟨-, hturn⟩ | ⟨-, -, hturn⟩ | ⟨r, hidle, -, hturn⟩
  · exact serveNext_keeps_inv (s := { s with inbox := requeue p rest }) hinv (hturn.symm.trans h)
  · cases hturn.symm.trans h
    exact hinv
  · obtain ⟨hwf, -⟩ := hinv
    exact takeRequest_keeps_inv (s := { s with inbox := requeue { p with req := none } rest }) hidle hwf
      (hturn.symm.trans h)

/-- An event changes the block alone, and keeps R33 there. -/
theorem eventTurn_keeps_inv {e : Event} {p : Presentation} {rest : List Presentation} {s t : State} (hinv : s.Inv)
    (h : eventTurn e p rest s = .next t) : t.Inv := by
  obtain ⟨hwf, hports⟩ := hinv
  have hwf' : t.blk.Wf := exec_wf (s := { s with inbox := requeue { p with ev := none } rest }) hwf h
  rw [decodeEvent_keeps_ports h]
  exact ⟨hwf', hports⟩

/-- RESET drops what is in service and empties the response port (log 9). -/
theorem exec_reset_inv {cfg : Cfg} {s t : State} (h : exec (.reset cfg) s = .next t) : t.Inv := by
  cases h
  refine ⟨⟨Queue.fresh_wf _, Queue.fresh_wf _⟩, fun _ => rfl, ?_, fun hno => ?_, Nat.zero_le _⟩
  · exact fun b hb => absurd hb List.not_mem_nil
  · exact absurd hno ok_ne_errRange

/-! ### The statements -/

/-- Settles O8: each turn keeps the invariant, be it the bus's, the event source's or reset's. -/
theorem stepKeepsTheInvariant : Obligations.StepKeepsTheInvariant := by
  unfold Obligations.StepKeepsTheInvariant
  intro s t hinv h
  cases hinbox : s.inbox with
  | nil =>
    rw [step_of_inbox_nil hinbox] at h
    exact serveNext_keeps_inv hinv h
  | cons p rest =>
    rw [step_of_inbox_cons hinbox] at h
    rcases takePresented_cases p rest s with ⟨cfg, -, hreset⟩ | ⟨e, -, -, hevent⟩ | ⟨-, hbus⟩
    · exact exec_reset_inv (hreset.symm.trans h)
    · exact eventTurn_keeps_inv hinv (hevent.symm.trans h)
    · exact busTurn_keeps_inv hinv (hbus.symm.trans h)

/-- Settles O9: after reset both queues are empty, and nothing is in service or answered. -/
theorem resetMeetsTheInvariant : Obligations.ResetMeetsTheInvariant := by
  unfold Obligations.ResetMeetsTheInvariant
  refine ⟨⟨Queue.empty_wf, Queue.empty_wf⟩, fun _ => rfl, ?_, fun _ => ⟨rfl, rfl⟩, Nat.zero_le _⟩
  exact fun b hb => absurd hb List.not_mem_nil

end Sys2Proof.Machine
end
